-- ==== Sys2Proof/Word.lean ====
section
/-! DEFINITION. The words of the machine (00 R6): 18-bit words, 36-bit double words, 48-bit accumulators, 80-bit bundles, and the
numbers of sectors and lanes. -/

namespace Sys2Proof

abbrev Byte := BitVec 8
abbrev Word := BitVec 18
abbrev DWord := BitVec 36
abbrev Acc := BitVec 48
abbrev Bundle := BitVec 80

/-- Sectors 0 to 3; sector 0 is the supervisor (05 R113). -/
abbrev Sector := Fin 4

/-- Lanes 0 to 3 (09 R208). -/
abbrev LaneId := Fin 4

end Sys2Proof
end

