-- ==== Sys2Proof/Syntax.lean ====
section
/-! DEFINITION. The commands of the block: one constructor for each row of spec/opcode_table.json, with the operands its rule names.
The table gives the rows no fields; the operands are the model's reading (notes/assumptions/2.md). -/

namespace Sys2Proof

/-- A long immediate paired with a syllable (03 R59, Table IZN-4): 18 bits under PAIR 01b and 10b, 36 bits under PAIR 11b. -/
inductive LongImm where
  | none
  | imm18 (v : Word)
  | imm36 (v : DWord)
  deriving DecidableEq, Repr

/-- Bit errors found in a stored word (03 R79, 12 R275): none, one, two, or more than the code covers. -/
inductive Upset where
  | none | single | double | beyond
  deriving DecidableEq, Repr

/-- Who reads or writes a register: sector n's program, or the host acting for a target sector (18 R414). -/
inductive Accessor where
  | prog (n : Sector)
  | host (n : Sector)
  deriving DecidableEq, Repr

/-- The sector whose permissions an accessor has (05 R121). -/
def Accessor.sector : Accessor → Sector
  | .prog n => n
  | .host n => n

/-- The accessor is a sector's program. -/
def Accessor.isProg : Accessor → Bool
  | .prog _ => true
  | .host _ => false

/-- The power domains (06 R141). -/
inductive Dom where
  | core | imem
  | hb (k : Fin 8)
  | lane (i : LaneId)
  | exc | tia | aout | fsw | net | twin | flash | host
  deriving DecidableEq, Repr

/-- The header of a host request as it arrives (13 Table HST-1); `long` tells that clocks went on past the frame's last byte (13 R302). -/
structure HostHead where
  sect : Sector
  width : Fin 4
  addr : BitVec 16
  cnt : Byte
  hcrc : Byte
  long : Bool
  deriving DecidableEq, Repr

/-- An excitation limit reached (08 R193, R198): source n out of compliance, VLIFT sink exceeded, VEXC at its current limit. -/
inductive ExcLimit where
  | cmpx (n : Fin 4) | vllim | vxlim
  deriving DecidableEq, Repr

/-- The analog quantities of 08 Table AFE-1 as they stand over a stretch of modulator samples, in nV, nA and 10^-3 °C; an absent one is 0.
Pin voltages stand at the pad (08 R199); `exc` and `vexcI` are what IEXC0 to 3 and VEXC carry while they deliver, `lp` the loop currents,
`lpNode` the nodes of loop pins whose shunt is open, `tia` what a lane sees of a stage that is not connected, `isns` ISNSP − ISNSN. -/
structure Pads where
  ain : List Int := []
  refp : Int := 0
  refn : Int := 0
  avdd : Int := 0
  vsys : Int := 0
  vfld : Int := 0
  tj : Int := 0
  lp : List Int := []
  lpNode : List Int := []
  tia : List Int := []
  exc : List Int := []
  vexcI : Int := 0
  aofb : List Int := []
  aoI : List Int := []
  fsw : List Int := []
  isns : Int := 0
  vexp : Int := 0
  vsnp : Int := 0
  vsnn : Int := 0
  vexn : Int := 0
  deriving DecidableEq, Repr

/-- What the output monitor measures of an analog output (11 R262, R265): its output in code units, the stage at its compliance or current
limit, and VFLD below 12 V. -/
structure AoObs where
  code : Word
  limit : Bool
  vlow : Bool
  deriving DecidableEq, Repr

/-- The header fields of a sequenced link frame as it arrives: SECT, SEQ, ACK (14 Table TWN-1). -/
structure LinkHead where
  sect : Sector
  seq : BitVec 3
  ack : BitVec 3
  deriving DecidableEq, Repr

/-- What is wrong with characters from the partner (14 Table TWN-6, codes 01h, 02h, 03h, 07h): a CRC mismatch or a reserved TYPE or LEN
with the frame's header bytes 0 and 1, an invalid character, a turn too long with the frames received in it. -/
inductive LinkError where
  | crc (h0 h1 : Byte)
  | character
  | type (h0 h1 : Byte)
  | babble (frames : Nat)
  deriving DecidableEq, Repr

/-- The commands. -/
inductive Instr where
  -- frames and segments (01, 02, 03)
  | frameBoundary
  | syncEdge
  | wakeAlarm (n : Sector)
  | wakeStageReady
  | oscfail
  | segmentAnchor (n : Sector)
  | lateSegmentStart (n : Sector)
  | boundaryPrologue
  | bundleIssue (upset : Upset)
  | overrun
  | overcut
  | drainEnd
  -- slot A (04 R91)
  | nop
  | add (d a b : Fin 16) (imm : Option Word)
  | sub (d a b : Fin 16) (imm : Option Word)
  | addi (d a b : Fin 16) (imm : Option Word)
  | adds (d a b : Fin 16) (imm : Option Word)
  | subs (d a b : Fin 16) (imm : Option Word)
  | and (d a b : Fin 16) (imm : Option Word)
  | or (d a b : Fin 16) (imm : Option Word)
  | xor (d a b : Fin 16) (imm : Option Word)
  | abs (d a b : Fin 16) (imm : Option Word)
  | min (d a b : Fin 16) (imm : Option Word)
  | max (d a b : Fin 16) (imm : Option Word)
  | shli (d a b : Fin 16) (imm : Option Word)
  | shri (d a b : Fin 16) (imm : Option Word)
  | srai (d a b : Fin 16) (imm : Option Word)
  | shlv (d a b : Fin 16) (imm : Option Word)
  | srav (d a b : Fin 16) (imm : Option Word)
  | sat (d a b : Fin 16) (imm : Option Word)
  | cmpeq (d a b : Fin 16) (imm : Option Word)
  | cmplt (d a b : Fin 16) (imm : Option Word)
  | cmple (d a b : Fin 16) (imm : Option Word)
  | cmpltu (d a b : Fin 16) (imm : Option Word)
  | pand (d a b : Fin 16) (imm : Option Word)
  | por (d a b : Fin 16) (imm : Option Word)
  | pxor (d a b : Fin 16) (imm : Option Word)
  -- slot K (04 R93)
  | mul (d a b : Fin 16) (imm : LongImm)
  | mac (d a b : Fin 16) (imm : LongImm)
  | msu (d a b : Fin 16) (imm : LongImm)
  | mova (d a b : Fin 16) (imm : LongImm)
  | adda (d a b : Fin 16) (imm : LongImm)
  | suba (d a b : Fin 16) (imm : LongImm)
  | movia (d a b : Fin 16) (imm : LongImm)
  | asr (d a b : Fin 16) (imm : LongImm)
  | ext (d a b : Fin 16) (imm : LongImm)
  | exth (d a b : Fin 16) (imm : LongImm)
  | extl (d a b : Fin 16) (imm : LongImm)
  -- slot M (04 R95)
  | ld (d a b : Fin 16)
  | ldPostinc (d a b : Fin 16)
  | st (d a b : Fin 16)
  | stPostinc (d a b : Fin 16)
  | ldd (d a b : Fin 16)
  | std (d a b : Fin 16)
  -- slot X (04 R97 to R109)
  | br (off : BitVec 12)
  | call (off : BitVec 12)
  | ret (d a b : Fin 16)
  | sx (d a b : Fin 16)
  | fx (d a b : Fin 16)
  | wait (d a b : Fin 16)
  | evt (d a b : Fin 16)
  | evw (d a b : Fin 16)
  | rdr (d a b : Fin 16)
  | wrr (d a b : Fin 16)
  | lmode (d a b : Fin 16)
  | lchan (d a : Fin 16)
  | ltrig (d a : Fin 16)
  | lswap (d a : Fin 16)
  | pop (d a b : Fin 16)
  | phdr (d a b : Fin 16)
  | iexc (u : Fin 4) (a b : Fin 16)
  | vexc (a b : Fin 16)
  | tia (u : Fin 2) (a b : Fin 16)
  | calq (d a b : Fin 16)
  | fswOn (u : Fin 4) (a : Fin 16)
  | fswOff (u : Fin 4) (a : Fin 16)
  | fswClear (u : Fin 4) (a : Fin 16)
  | aout (u : Fin 2) (a b : Fin 16)
  | aoctl (u : Fin 2) (a b : Fin 16)
  | crv (d a b : Fin 16)
  | lka (d a b : Fin 16)
  | lkr (d a b : Fin 16)
  | nsend (d a b : Fin 16)
  | tsend (d a b : Fin 16)
  -- open-slot bookings and image loads (02, 13, 14, 15, 10, 12)
  | hostBooking
  | twinBooking
  | netrxBooking
  | telemBooking
  | calBooking
  | flashBooking
  | scrubBooking (flips : List (Nat × Upset))
  | imageLoad (n : Sector) (l : List Byte)
  -- sectors (05)
  | sectorReset (n : Sector)
  | sectorResetComplete (n : Sector)
  | start (acc : Accessor) (n : Sector)
  | stop (acc : Accessor) (n : Sector)
  | cmdReset (acc : Accessor) (n : Sector)
  | secSupvWrite (acc : Accessor) (n : Sector) (v : Word)
  | secDbellWrite (acc : Accessor) (n : Sector) (v : Word)
  | watchdogKick (n : Sector) (v : Word)
  | wdgw (n : Sector)
  | watchdogExpiry (n : Sector)
  | wdg
  | virtualLineChange (n : Sector) (k : Fin 4)
  | laneTimeShareExhausted (n : Sector)
  -- domains, wakes and clocks (06)
  | domainTransitionStart (d : Dom)
  | domainTransitionComplete (d : Dom)
  | pendingTransitionStart (d : Dom)
  | laneAutoRetention (i : LaneId)
  | lanePllStart
  | hcs
  | tact
  | ned
  | wakeRaiseHoldExpiry (k : Fin 3)
  | xkeepWrite (v : Bool)
  | crystalStandbyReached
  | scfail
  | slowClockToCrystal
  | mdivApply (i : LaneId)
  | regulatorToLow
  | borLowmode
  -- posts and triplicated fields (06, 13)
  | postCommit
  | tmrCorrection (upsets : List (Nat × Word × Word × Word))
  -- ledger and thermal unit (07)
  | ledgerTickClose (shunt : Int) (vsys vexc : Nat)
  | ledgerZero (offset : Int)
  | storePost (v : Word)
  | stale
  | thermalSample (t : BitVec 12)
  -- front end (08, 10)
  | agecIncrement
  | clamp (p : Fin 28)
  | lplim (n : Fin 4)
  -- descriptors, profiles, thresholds, curve memory (08, 09, 10)
  | descriptorCommit (acc : Accessor) (d : Fin 64) (v : Word)
  | profileCommit (acc : Accessor) (p : Fin 8) (v : Word)
  | thresholdSetCommit (acc : Accessor) (t : Fin 8) (v : Word)
  | crvPdAccess (acc : Accessor) (v : Option Word)
  -- lanes (09)
  | laneCommandEffect (i : LaneId)
  | laneFrameTrigger (i : LaneId)
  | chainReset (i : LaneId)
  | sampleBoundary (i : LaneId) (mods : List Bool) (pads : Pads)
  | gatingWindowClose (i : LaneId)
  | shadowTimeout (i : LaneId)
  | laneHcmd (i : LaneId) (v : Word)
  | laneReset (acc : Accessor) (i : LaneId)
  -- calibration (10)
  | calMeasurementEnd (i : LaneId)
  | calStoreRetry
  -- field outputs (11)
  | fswTurnonComplete (k : Fin 4)
  | fswTurnoffComplete (k : Fin 4)
  | fswLimit (k : Fin 4) (load : Nat)
  | fswLatchOff (k : Fin 4)
  | fswTrip (k : Fin 4) (reverse : Bool)
  | fswRetry (k : Fin 4) (cool : Bool := true)
  | rcntClear (k : Fin 4)
  | vfldUvlo
  | vfldUvloRelease
  | outputMonitorSample (high : Vector Bool 4) (ao : Vector AoObs 2)
  | aoRangeComplete (n : Fin 2)
  | outputPendingStart (u : Fin 6)
  | sharedOutputDrive
  -- host port (13)
  | hcsFall (mode3 : Bool)
  | rdreg (h : HostHead)
  | wrreg (h : HostHead) (data : List Byte) (dcrc : Byte)
  | rdmem (h : HostHead)
  | wrmem (h : HostHead) (data : List Byte) (dcrc : Byte)
  | rdstrm (h : HostHead)
  | status (h : HostHead)
  | release (h : HostHead)
  | abort (h : HostHead)
  | imgldWrite (h : HostHead) (data : List Byte) (dcrc : Byte)
  | imgldErase (h : HostHead)
  | imgldLoad (h : HostHead)
  | echo (h : HostHead) (data : List Byte) (dcrc : Byte)
  | trunc (cmd : Byte) (n : Nat) (heard : Bool := false)
  | hostDirectService
  | uncoll
  | hwexp
  -- register writes (13, 18)
  | sysKeyWrite (acc : Accessor) (v : Word)
  | sysKeyExpiry
  | registerWrite (acc : Accessor) (addr : BitVec 12) (v : Word)
  | periodWrite (acc : Accessor) (v : Word)
  -- Tangent link (14)
  | tangentTurnStart (long collide : Bool)
  | ackReceived (ack : BitVec 3)
  | hbReceived (h : LinkHead) (ws : List Word)
  | msgReceived (h : LinkHead) (ws : List Word)
  | mirReceived (h : LinkHead) (ws : List Word)
  | shdReceived (h : LinkHead) (ws : List Word)
  | trainReceived (ws : List Word)
  | rtx
  | heartbeatMiss (low : Bool)
  | trainResend
  | trainingTimeout
  | retryTimerExpiry
  | presenceChange
  | claimAttempt (high : List Bool := [])
  | claimProbe (low : Bool)
  | yield (acc : Accessor)
  | retrain (acc : Accessor)
  | twRxPop (acc : Accessor) (n : Sector)
  | shadowRecordExpiry (i : LaneId)
  -- network (15)
  | linkUp (high master : Bool)
  | ldown
  | netFrameReceived (f : List Byte)
  | arpRequest (f : List Byte)
  | icmpEchoRequest (f : List Byte)
  | transmitStart
  | transmitDone
  | txto
  | netRxPop (acc : Accessor) (n : Sector)
  | seqRestoreCommit (n : Sector) (rx : Bool) (v : Word)
  -- flash, log, Thermos, OTP (12)
  | read (acc : Accessor) (n : Sector) (cntm1 : BitVec 6)
  | prog (acc : Accessor) (n : Sector) (cntm1 : BitVec 6)
  | erase (acc : Accessor) (n : Sector) (cntm1 : BitVec 6)
  | append (acc : Accessor) (n : Sector) (cntm1 : BitVec 6)
  | recent (acc : Accessor) (n : Sector) (cntm1 : BitVec 6)
  | eraseSuspend
  | flashArrayStepDone (ok : Bool)
  | flashOpComplete
  | logEntryWrite
  | thermosDataAccess (acc : Accessor) (v : Option Word)
  | otpProgram (acc : Accessor) (v : Word)
  | otpProgramDone
  -- resets and boot (16)
  | bor
  | pin
  | soft (acc : Accessor)
  | aonReady
  | strapSample (bootHigh test : Bool)
  | policyRead
  | journalScan
  | bootSlotLoad
  | bootStart
  | guestLoad (acc : Accessor) (v : Word)
  -- pins (17)
  | gpFuncWrite (acc : Accessor) (g : Fin 8) (v : Word)
  | gpParkEnd (g : Fin 8)
  | gpEdge (g : Fin 8) (level : Bool)
  | wakePinEdge (level : Bool)
  | vddioLoss
  | vddioResume
  | vsysLoss (held : Bool)
  -- errors on links, negotiation, analog limits (13, 14, 15, 08, 11)
  | hostHeaderReject (cmd : Byte) (addr : BitVec 16) (cnt hcrc : Byte)
  | tangentFrameError (e : LinkError)
  | negotiationComplete
  | excitationLimit (k : ExcLimit)
  | tiasat (n : Fin 2)
  | aoutRampComplete (n : Fin 2)
  deriving DecidableEq, Repr

end Sys2Proof
end

