-- ==== Sys2Proof/Config.lean ====
section
/-! DEFINITION. The values spec/ leaves open: constants with no body, applied to operands or to the model's counter of free values.
No proof can learn a value of one. -/

namespace Sys2Proof

/-- What a read of a word with more flipped bits than its code covers turns into (03 R79, 12 R274): 0 reported as corrected, 1 reported
as uncorrectable, 2 delivered with no report. -/
opaque Config.beyondEccKind : Nat → Fin 3

/-- The word such a read delivers (03 R79, 12 R274). -/
opaque Config.beyondEccWord : Nat → Word

/-- The bundle such a fetch issues (03 R79). -/
opaque Config.beyondEccBundle : Nat → Bundle

/-- The reference function E_ref of a thermocouple curve 1 to 8 (10 R237, R239: IEC 60584-1, whose functions spec/ does not state): 2^-32 nV
at a temperature in 2^-32 °C. -/
opaque Config.thermoEmf : (curve : Nat) → (t : Int) → Int

/-- The error of a thermocouple or resistance curve in 10^-6 °C, before its bound (10 Table CAL-4: at most 0.02 or 0.005 °C). -/
opaque Config.curveError : (curve : Nat) → (u : Int) → Int

/-- The mean of a calibration measurement whose profile has a DC gain of 0 (10 R243: spec/ states no quotient). -/
opaque Config.calNoGain : Int → Int

/-- A byte that a program or erase step left when it failed verification (12 Table MEM-7, code 6: spec/ states no content). -/
opaque Config.flashByte : Nat → Byte

/-- The current limit of a field switch at thermal level NORMAL or WARM, in mA over 300 (11 Table OUT-7: 300 to 500 mA). -/
opaque Config.fswLimit : Fin 4 → Fin 201

/-- A SOFS result that falls outside the 18-bit word (10 Table CAL-5, kind 5: R250 gives no limit and spec/ no result). -/
opaque Config.sofsOutside : Int → Word

/-- The factory trim that OTP 100h to 5FFh hold for the coefficient at a curve-memory address (10 R253, 12 Table MEM-8; spec/ states no layout
of the area): a function of the area's bytes. -/
opaque Config.factoryTrim : (trims : List (Nat × Byte)) → (addr : Nat) → Word

/-- Whether a bit crossing into the slow domain is seen at the second edge after its change or at the third (06 R137: either). -/
opaque Config.crossing : Nat → Fin 2

/-- The parts of a tick in which an item of Table NRG-1 whose weight differs between the tick's start and its close had the one and the
other (07 R165: time the model does not keep), for the draw of a tick and the item. -/
opaque Config.tickPart : (draw item : Nat) → Nat

end Sys2Proof
end

