-- ==== Sys2Proof/Machine/Fields.lean ====
section
/-! DEFINITION. Names for the register fields of spec/: the place of each field of each field table, F.<register>_<field>. -/

namespace Sys2Proof.Machine

/-- A field's place: register address and bit range. -/
structure Fld where
  addr : Nat
  hi : Nat
  lo : Nat
  deriving DecidableEq, Repr

/-! SYS_ID (18 MAP-3) -/
def A.SYS_ID : Nat := 0x000
def F.SYS_ID_PART : Fld := ⟨0x000, 17, 0⟩
/-! SYS_REV (18 MAP-3) -/
def A.SYS_REV : Nat := 0x001
def F.SYS_REV_REV : Fld := ⟨0x001, 7, 0⟩
/-! PIN_GP (17 PIN-6) -/
def A.PIN_GP (n : Nat) : Nat := 0x004 + n
def F.PIN_GP_EDGE (n : Nat) : Fld := ⟨0x004 + n, 17, 16⟩
def F.PIN_GP_PULL (n : Nat) : Fld := ⟨0x004 + n, 15, 14⟩
def F.PIN_GP_OUTV (n : Nat) : Fld := ⟨0x004 + n, 13, 13⟩
def F.PIN_GP_IN (n : Nat) : Fld := ⟨0x004 + n, 12, 12⟩
def F.PIN_GP_PARK (n : Nat) : Fld := ⟨0x004 + n, 11, 11⟩
def F.PIN_GP_FUNC (n : Nat) : Fld := ⟨0x004 + n, 1, 0⟩
/-! PIN_CFG (17 PIN-7) -/
def A.PIN_CFG : Nat := 0x00C
def F.PIN_CFG_REFOE : Fld := ⟨0x00C, 17, 17⟩
def F.PIN_CFG_WEDGE : Fld := ⟨0x00C, 16, 15⟩
def F.PIN_CFG_WPULL : Fld := ⟨0x00C, 14, 14⟩
def F.PIN_CFG_AMSEL : Fld := ⟨0x00C, 13, 8⟩
/-! PIN_STAT (17 PIN-7) -/
def A.PIN_STAT : Nat := 0x00D
def F.PIN_STAT_BOOTL : Fld := ⟨0x00D, 9, 9⟩
def F.PIN_STAT_WAKEL : Fld := ⟨0x00D, 8, 8⟩
def F.PIN_STAT_GPL : Fld := ⟨0x00D, 7, 0⟩
/-! SYS_KEY (13 HST-6) -/
def A.SYS_KEY : Nat := 0x010
def F.SYS_KEY_ARMED : Fld := ⟨0x010, 0, 0⟩
/-! SYS_KEYERR (13 HST-6) -/
def A.SYS_KEYERR : Nat := 0x011
def F.SYS_KEYERR_CLR : Fld := ⟨0x011, 16, 16⟩
def F.SYS_KEYERR_KDN : Fld := ⟨0x011, 15, 8⟩
def F.SYS_KEYERR_KERR : Fld := ⟨0x011, 7, 0⟩
/-! SYS_TMRFIX (13 HST-6) -/
def A.SYS_TMRFIX : Nat := 0x012
def F.SYS_TMRFIX_CLR : Fld := ⟨0x012, 16, 16⟩
def F.SYS_TMRFIX_COUNT : Fld := ⟨0x012, 15, 0⟩
/-! SYS_RST (16 RST-8) -/
def A.SYS_RST : Nat := 0x018
def F.SYS_RST_SOFT : Fld := ⟨0x018, 8, 8⟩
def F.SYS_RST_LRST : Fld := ⟨0x018, 3, 0⟩
/-! SYS_RSTCAUSE (16 RST-8) -/
def A.SYS_RSTCAUSE : Nat := 0x019
def F.SYS_RSTCAUSE_DCNT : Fld := ⟨0x019, 17, 12⟩
def F.SYS_RSTCAUSE_PREV : Fld := ⟨0x019, 11, 6⟩
def F.SYS_RSTCAUSE_CAUSE : Fld := ⟨0x019, 5, 0⟩
/-! SYS_RSTTH (16 RST-9) -/
def A.SYS_RSTTH : Nat := 0x01A
def F.SYS_RSTTH_TICK : Fld := ⟨0x01A, 17, 0⟩
/-! SYS_RSTTL (16 RST-9) -/
def A.SYS_RSTTL : Nat := 0x01B
def F.SYS_RSTTL_TICK : Fld := ⟨0x01B, 17, 0⟩
/-! SYS_BOOT (16 RST-9) -/
def A.SYS_BOOT : Nat := 0x01C
def F.SYS_BOOT_BOOTPIN : Fld := ⟨0x01C, 17, 17⟩
def F.SYS_BOOT_HOSTBOOT : Fld := ⟨0x01C, 16, 16⟩
def F.SYS_BOOT_SLOT : Fld := ⟨0x01C, 15, 14⟩
def F.SYS_BOOT_FALLBK : Fld := ⟨0x01C, 13, 13⟩
def F.SYS_BOOT_FCODE : Fld := ⟨0x01C, 12, 5⟩
def F.SYS_BOOT_BOOTF : Fld := ⟨0x01C, 4, 4⟩
def F.SYS_BOOT_BOOTX : Fld := ⟨0x01C, 3, 3⟩
/-! SYS_BLOAD (16 RST-9) -/
def A.SYS_BLOAD : Nat := 0x01D
def F.SYS_BLOAD_GO : Fld := ⟨0x01D, 17, 17⟩
def F.SYS_BLOAD_SLOT : Fld := ⟨0x01D, 16, 15⟩
def F.SYS_BLOAD_SECT : Fld := ⟨0x01D, 14, 13⟩
def F.SYS_BLOAD_BUSY : Fld := ⟨0x01D, 12, 12⟩
/-! PWR_REQA (06 PWR-9) -/
def A.PWR_REQA (n : Nat) : Nat := 0x040 + 4 * n
def F.PWR_REQA_HB (n : Nat) : Fld := ⟨0x040 + 4 * n, 17, 4⟩
def F.PWR_REQA_IMEM (n : Nat) : Fld := ⟨0x040 + 4 * n, 3, 2⟩
def F.PWR_REQA_CORE (n : Nat) : Fld := ⟨0x040 + 4 * n, 1, 0⟩
/-! PWR_REQB (06 PWR-9) -/
def A.PWR_REQB (n : Nat) : Nat := 0x041 + 4 * n
def F.PWR_REQB_FSW (n : Nat) : Fld := ⟨0x041 + 4 * n, 17, 16⟩
def F.PWR_REQB_AOUT (n : Nat) : Fld := ⟨0x041 + 4 * n, 15, 14⟩
def F.PWR_REQB_TIA (n : Nat) : Fld := ⟨0x041 + 4 * n, 13, 12⟩
def F.PWR_REQB_EXC (n : Nat) : Fld := ⟨0x041 + 4 * n, 11, 10⟩
def F.PWR_REQB_LANE (n : Nat) : Fld := ⟨0x041 + 4 * n, 9, 2⟩
def F.PWR_REQB_HB7 (n : Nat) : Fld := ⟨0x041 + 4 * n, 1, 0⟩
/-! PWR_REQC (06 PWR-9) -/
def A.PWR_REQC (n : Nat) : Nat := 0x042 + 4 * n
def F.PWR_REQC_HOST (n : Nat) : Fld := ⟨0x042 + 4 * n, 7, 6⟩
def F.PWR_REQC_FLASH (n : Nat) : Fld := ⟨0x042 + 4 * n, 5, 4⟩
def F.PWR_REQC_TWIN (n : Nat) : Fld := ⟨0x042 + 4 * n, 3, 2⟩
def F.PWR_REQC_NET (n : Nat) : Fld := ⟨0x042 + 4 * n, 1, 0⟩
/-! PWR_STATA (06 PWR-10) -/
def A.PWR_STATA : Nat := 0x050
def F.PWR_STATA_STAT : Fld := ⟨0x050, 17, 0⟩
/-! PWR_STATB (06 PWR-10) -/
def A.PWR_STATB : Nat := 0x051
def F.PWR_STATB_STAT : Fld := ⟨0x051, 17, 0⟩
/-! PWR_STATC (06 PWR-10) -/
def A.PWR_STATC : Nat := 0x052
def F.PWR_STATC_STAT : Fld := ⟨0x052, 7, 0⟩
/-! PWR_PENDA (06 PWR-11) -/
def A.PWR_PENDA : Nat := 0x053
def F.PWR_PENDA_PEND : Fld := ⟨0x053, 17, 0⟩
/-! PWR_PENDB (06 PWR-11) -/
def A.PWR_PENDB : Nat := 0x054
def F.PWR_PENDB_PEND : Fld := ⟨0x054, 3, 0⟩
/-! PWR_REPLACED (06 PWR-11) -/
def A.PWR_REPLACED : Nat := 0x055
def F.PWR_REPLACED_CLR : Fld := ⟨0x055, 16, 16⟩
def F.PWR_REPLACED_COUNT : Fld := ⟨0x055, 15, 0⟩
/-! PWR_WAKE_STATUS (06 PWR-12) -/
def A.PWR_WAKE_STATUS : Nat := 0x056
def F.PWR_WAKE_STATUS_BUSY : Fld := ⟨0x056, 8, 8⟩
def F.PWR_WAKE_STATUS_KIND : Fld := ⟨0x056, 7, 5⟩
def F.PWR_WAKE_STATUS_LOGRDY : Fld := ⟨0x056, 4, 4⟩
def F.PWR_WAKE_STATUS_MEMRDY : Fld := ⟨0x056, 3, 3⟩
def F.PWR_WAKE_STATUS_PLLRDY : Fld := ⟨0x056, 2, 2⟩
def F.PWR_WAKE_STATUS_OSCRDY : Fld := ⟨0x056, 1, 1⟩
def F.PWR_WAKE_STATUS_REGRDY : Fld := ⟨0x056, 0, 0⟩
/-! PWR_WAKEEN (06 PWR-13) -/
def A.PWR_WAKEEN : Nat := 0x057
def F.PWR_WAKEEN_HOLD : Fld := ⟨0x057, 11, 7⟩
def F.PWR_WAKEEN_EN : Fld := ⟨0x057, 6, 0⟩
/-! PWR_WAKESRC (06 PWR-13) -/
def A.PWR_WAKESRC : Nat := 0x058
def F.PWR_WAKESRC_SET : Fld := ⟨0x058, 16, 8⟩
def F.PWR_WAKESRC_CODE : Fld := ⟨0x058, 3, 0⟩
/-! PWR_WAKETL (06 PWR-13) -/
def A.PWR_WAKETL : Nat := 0x059
def F.PWR_WAKETL_TICK : Fld := ⟨0x059, 17, 0⟩
/-! PWR_WAKETH (06 PWR-13) -/
def A.PWR_WAKETH : Nat := 0x05A
def F.PWR_WAKETH_TICK : Fld := ⟨0x05A, 17, 0⟩
/-! PWR_LRET (06 PWR-13) -/
def A.PWR_LRET : Nat := 0x05B
def F.PWR_LRET_TICKS : Fld := ⟨0x05B, 7, 0⟩
/-! PWR_REGCTL (06 PWR-14) -/
def A.PWR_REGCTL : Nat := 0x060
def F.PWR_REGCTL_LOADEST : Fld := ⟨0x060, 13, 6⟩
def F.PWR_REGCTL_MODE : Fld := ⟨0x060, 2, 2⟩
def F.PWR_REGCTL_IDLE : Fld := ⟨0x060, 1, 0⟩
/-! CLK_CTL (06 PWR-15) -/
def A.CLK_CTL : Nat := 0x070
def F.CLK_CTL_SCSEL : Fld := ⟨0x070, 2, 1⟩
def F.CLK_CTL_XKEEP : Fld := ⟨0x070, 0, 0⟩
/-! CLK_MDIV (06 PWR-15) -/
def A.CLK_MDIV : Nat := 0x071
def F.CLK_MDIV_MDPEND : Fld := ⟨0x071, 15, 12⟩
def F.CLK_MDIV_MDIV : Fld := ⟨0x071, 11, 0⟩
/-! CLK_OUT (06 PWR-15) -/
def A.CLK_OUT : Nat := 0x072
def F.CLK_OUT_SRC : Fld := ⟨0x072, 2, 0⟩
/-! CLK_STAT (06 PWR-15) -/
def A.CLK_STAT : Nat := 0x073
def F.CLK_STAT_OSCSKIP : Fld := ⟨0x073, 17, 12⟩
def F.CLK_STAT_OSCFAIL : Fld := ⟨0x073, 3, 3⟩
def F.CLK_STAT_SCFAIL : Fld := ⟨0x073, 2, 2⟩
def F.CLK_STAT_SCSRC : Fld := ⟨0x073, 1, 1⟩
def F.CLK_STAT_PLLON : Fld := ⟨0x073, 0, 0⟩
/-! CLK_TICKL (06 PWR-16) -/
def A.CLK_TICKL : Nat := 0x074
def F.CLK_TICKL_TICK : Fld := ⟨0x074, 17, 0⟩
/-! CLK_TICKH (06 PWR-16) -/
def A.CLK_TICKH : Nat := 0x075
def F.CLK_TICKH_TICK : Fld := ⟨0x075, 17, 0⟩
/-! LDG_CFG (07 NRG-4) -/
def A.LDG_CFG : Nat := 0x0C0
def F.LDG_CFG_RSH : Fld := ⟨0x0C0, 17, 8⟩
def F.LDG_CFG_ZEN : Fld := ⟨0x0C0, 7, 7⟩
/-! LDG_TOL (07 NRG-4) -/
def A.LDG_TOL : Nat := 0x0C1
def F.LDG_TOL_TOL : Fld := ⟨0x0C1, 9, 0⟩
/-! LDG_ETOTH (07 NRG-5) -/
def A.LDG_ETOTH : Nat := 0x0C2
def F.LDG_ETOTH_ETOT : Fld := ⟨0x0C2, 17, 0⟩
/-! LDG_ETOTL (07 NRG-5) -/
def A.LDG_ETOTL : Nat := 0x0C3
def F.LDG_ETOTL_ETOT : Fld := ⟨0x0C3, 17, 0⟩
/-! LDG_STOREH (07 NRG-5) -/
def A.LDG_STOREH : Nat := 0x0C4
def F.LDG_STOREH_STORE : Fld := ⟨0x0C4, 17, 0⟩
/-! LDG_STOREL (07 NRG-5) -/
def A.LDG_STOREL : Nat := 0x0C5
def F.LDG_STOREL_STORE : Fld := ⟨0x0C5, 17, 0⟩
/-! LDG_TTH (07 NRG-5) -/
def A.LDG_TTH (n : Nat) : Nat := 0x0C6 + n
def F.LDG_TTH_TTH (n : Nat) : Fld := ⟨0x0C6 + n, 17, 0⟩
/-! LDG_THYS (07 NRG-5) -/
def A.LDG_THYS : Nat := 0x0C9
def F.LDG_THYS_HYS : Fld := ⟨0x0C9, 17, 0⟩
/-! LDG_TMAX (07 NRG-6) -/
def A.LDG_TMAX : Nat := 0x0CA
def F.LDG_TMAX_STMAX : Fld := ⟨0x0CA, 15, 8⟩
def F.LDG_TMAX_TMAX : Fld := ⟨0x0CA, 7, 0⟩
/-! LDG_STAT (07 NRG-6) -/
def A.LDG_STAT : Nat := 0x0CB
def F.LDG_STAT_TIER : Fld := ⟨0x0CB, 17, 10⟩
def F.LDG_STAT_TORD : Fld := ⟨0x0CB, 5, 5⟩
def F.LDG_STAT_OVR : Fld := ⟨0x0CB, 4, 4⟩
def F.LDG_STAT_STALE : Fld := ⟨0x0CB, 3, 3⟩
def F.LDG_STAT_L : Fld := ⟨0x0CB, 1, 0⟩
/-! LDG_EH (07 NRG-5) -/
def A.LDG_EH (n : Nat) : Nat := 0x0D0 + 2 * n
def F.LDG_EH_E (n : Nat) : Fld := ⟨0x0D0 + 2 * n, 17, 0⟩
/-! LDG_EL (07 NRG-5) -/
def A.LDG_EL (n : Nat) : Nat := 0x0D1 + 2 * n
def F.LDG_EL_E (n : Nat) : Fld := ⟨0x0D1 + 2 * n, 17, 0⟩
/-! LDG_REC (07 NRG-7) -/
def A.LDG_REC (n : Nat) : Nat := 0x0D8 + n
def F.LDG_REC_DIV (n : Nat) : Fld := ⟨0x0D8 + n, 17, 7⟩
def F.LDG_REC_LOWCNT (n : Nat) : Fld := ⟨0x0D8 + n, 6, 3⟩
def F.LDG_REC_VOID (n : Nat) : Fld := ⟨0x0D8 + n, 2, 2⟩
def F.LDG_REC_CLR (n : Nat) : Fld := ⟨0x0D8 + n, 1, 1⟩
/-! LDG_VAVG (07 NRG-5) -/
def A.LDG_VAVG (n : Nat) : Nat := 0x0DC + n
def F.LDG_VAVG_VAVG (n : Nat) : Fld := ⟨0x0DC + n, 12, 0⟩
/-! THERM_STAT (07 NRG-8) -/
def A.THERM_STAT : Nat := 0x0E0
def F.THERM_STAT_LEVEL : Fld := ⟨0x0E0, 13, 12⟩
def F.THERM_STAT_TEMP : Fld := ⟨0x0E0, 11, 0⟩
/-! THERM_CHAT (07 NRG-8) -/
def A.THERM_CHAT : Nat := 0x0E1
def F.THERM_CHAT_CHAT : Fld := ⟨0x0E1, 17, 10⟩
def F.THERM_CHAT_CRITCNT : Fld := ⟨0x0E1, 9, 6⟩
def F.THERM_CHAT_DWELL : Fld := ⟨0x0E1, 5, 3⟩
def F.THERM_CHAT_CLR : Fld := ⟨0x0E1, 0, 0⟩
/-! THERM_SKIP (07 NRG-8) -/
def A.THERM_SKIP : Nat := 0x0E2
def F.THERM_SKIP_SKIP : Fld := ⟨0x0E2, 7, 0⟩
/-! SCH_FRAME (01 FRM-5) -/
def A.SCH_FRAME : Nat := 0x100
def F.SCH_FRAME_PERIOD : Fld := ⟨0x100, 17, 0⟩
/-! SCH_SYNC (01 FRM-6) -/
def A.SCH_SYNC : Nat := 0x101
def F.SCH_SYNC_PREJ : Fld := ⟨0x101, 17, 17⟩
def F.SCH_SYNC_STRAY : Fld := ⟨0x101, 16, 10⟩
def F.SCH_SYNC_MISS : Fld := ⟨0x101, 9, 2⟩
def F.SCH_SYNC_MODE : Fld := ⟨0x101, 1, 0⟩
/-! SCH_WLEAD (01 FRM-7) -/
def A.SCH_WLEAD : Nat := 0x102
def F.SCH_WLEAD_COLD : Fld := ⟨0x102, 17, 10⟩
def F.SCH_WLEAD_WARM : Fld := ⟨0x102, 9, 5⟩
def F.SCH_WLEAD_HOT : Fld := ⟨0x102, 4, 0⟩
/-! SCH_SKIP (01 FRM-8) -/
def A.SCH_SKIP (n : Nat) : Nat := 0x104 + n
def F.SCH_SKIP_SKIP (n : Nat) : Fld := ⟨0x104 + n, 11, 0⟩
/-! SCH_LATE (01 FRM-9) -/
def A.SCH_LATE : Nat := 0x108
def F.SCH_LATE_CLR : Fld := ⟨0x108, 16, 16⟩
def F.SCH_LATE_LATE3 : Fld := ⟨0x108, 15, 12⟩
def F.SCH_LATE_LATE2 : Fld := ⟨0x108, 11, 8⟩
def F.SCH_LATE_LATE1 : Fld := ⟨0x108, 7, 4⟩
def F.SCH_LATE_LATE0 : Fld := ⟨0x108, 3, 0⟩
/-! SCH_CTV (02 CON-12) -/
def A.SCH_CTV : Nat := 0x110
def F.SCH_CTV_CTV : Fld := ⟨0x110, 7, 0⟩
/-! SCH_BACT (02 CON-13) -/
def A.SCH_BACT : Nat := 0x111
def F.SCH_BACT_T0N : Fld := ⟨0x111, 17, 12⟩
def F.SCH_BACT_ESC : Fld := ⟨0x111, 11, 8⟩
def F.SCH_BACT_ACT : Fld := ⟨0x111, 7, 0⟩
/-! SCH_OVGR (02 CON-14) -/
def A.SCH_OVGR : Nat := 0x112
def F.SCH_OVGR_GRACE : Fld := ⟨0x112, 11, 0⟩
/-! SCH_LDST (02 CON-15) -/
def A.SCH_LDST : Nat := 0x113
def F.SCH_LDST_SECT : Fld := ⟨0x113, 17, 16⟩
def F.SCH_LDST_CODE : Fld := ⟨0x113, 15, 8⟩
def F.SCH_LDST_ICTV : Fld := ⟨0x113, 7, 0⟩
/-! SCH_BST (02 CON-16) -/
def A.SCH_BST (n : Nat) : Nat := 0x114 + n
def F.SCH_BST_BCNT (n : Nat) : Fld := ⟨0x114 + n, 17, 13⟩
def F.SCH_BST_CAPLEFT (n : Nat) : Fld := ⟨0x114 + n, 12, 7⟩
def F.SCH_BST_CAP (n : Nat) : Fld := ⟨0x114 + n, 6, 6⟩
def F.SCH_BST_UNDER (n : Nat) : Fld := ⟨0x114 + n, 5, 5⟩
def F.SCH_BST_ENERGY (n : Nat) : Fld := ⟨0x114 + n, 4, 4⟩
def F.SCH_BST_LANEQ (n : Nat) : Fld := ⟨0x114 + n, 3, 3⟩
def F.SCH_BST_EMPTYPOP (n : Nat) : Fld := ⟨0x114 + n, 2, 2⟩
def F.SCH_BST_POSTQ (n : Nat) : Fld := ⟨0x114 + n, 1, 1⟩
def F.SCH_BST_OVERRUN (n : Nat) : Fld := ⟨0x114 + n, 0, 0⟩
/-! SCH_SLOT (02 CON-17) -/
def A.SCH_SLOT (n : Nat) : Nat := 0x118 + n
def F.SCH_SLOT_USED (n : Nat) : Fld := ⟨0x118 + n, 17, 0⟩
/-! SEQ_FLAG (03 IZN-9) -/
def A.SEQ_FLAG (n : Nat) : Nat := 0x11C + n
def F.SEQ_FLAG_WINCNT (n : Nat) : Fld := ⟨0x11C + n, 17, 10⟩
def F.SEQ_FLAG_SLOTX (n : Nat) : Fld := ⟨0x11C + n, 8, 8⟩
def F.SEQ_FLAG_RSO (n : Nat) : Fld := ⟨0x11C + n, 7, 7⟩
def F.SEQ_FLAG_RSU (n : Nat) : Fld := ⟨0x11C + n, 6, 6⟩
def F.SEQ_FLAG_IFLT (n : Nat) : Fld := ⟨0x11C + n, 5, 5⟩
def F.SEQ_FLAG_IMSEC (n : Nat) : Fld := ⟨0x11C + n, 4, 4⟩
def F.SEQ_FLAG_WIN (n : Nat) : Fld := ⟨0x11C + n, 3, 3⟩
def F.SEQ_FLAG_AOV (n : Nat) : Fld := ⟨0x11C + n, 1, 1⟩
def F.SEQ_FLAG_SAT (n : Nat) : Fld := ⟨0x11C + n, 0, 0⟩
/-! SEQ_IECC (03 IZN-10) -/
def A.SEQ_IECC : Nat := 0x120
def F.SEQ_IECC_SBE : Fld := ⟨0x120, 17, 14⟩
def F.SEQ_IECC_DED : Fld := ⟨0x120, 13, 13⟩
def F.SEQ_IECC_ADDR : Fld := ⟨0x120, 12, 0⟩
/-! SEQ_XST (04 INS-11) -/
def A.SEQ_XST (n : Nat) : Nat := 0x124 + n
def F.SEQ_XST_XCNT (n : Nat) : Fld := ⟨0x124 + n, 17, 10⟩
def F.SEQ_XST_CRVX (n : Nat) : Fld := ⟨0x124 + n, 3, 3⟩
def F.SEQ_XST_ARG (n : Nat) : Fld := ⟨0x124 + n, 2, 2⟩
def F.SEQ_XST_NOGR (n : Nat) : Fld := ⟨0x124 + n, 1, 1⟩
def F.SEQ_XST_REGDN (n : Nat) : Fld := ⟨0x124 + n, 0, 0⟩
/-! SEC_CTL (05 SEC-7) -/
def A.SEC_CTL (n : Nat) : Nat := 0x200 + 32 * n
def F.SEC_CTL_SPEND (n : Nat) : Fld := ⟨0x200 + 32 * n, 5, 5⟩
def F.SEC_CTL_IMG (n : Nat) : Fld := ⟨0x200 + 32 * n, 4, 4⟩
def F.SEC_CTL_STATE (n : Nat) : Fld := ⟨0x200 + 32 * n, 3, 2⟩
def F.SEC_CTL_CMD (n : Nat) : Fld := ⟨0x200 + 32 * n, 1, 0⟩
/-! SEC_IMEM (05 SEC-8) -/
def A.SEC_IMEM (n : Nat) : Nat := 0x201 + 32 * n
def F.SEC_IMEM_IEN (n : Nat) : Fld := ⟨0x201 + 32 * n, 10, 10⟩
def F.SEC_IMEM_ILEN (n : Nat) : Fld := ⟨0x201 + 32 * n, 9, 5⟩
def F.SEC_IMEM_IBASE (n : Nat) : Fld := ⟨0x201 + 32 * n, 4, 0⟩
/-! SEC_WIN (05 SEC-9) -/
def A.SEC_WIN (n : Nat) : Nat := 0x202 + 32 * n
def F.SEC_WIN_GLEN (n : Nat) : Fld := ⟨0x202 + 32 * n, 12, 6⟩
def F.SEC_WIN_GBASE (n : Nat) : Fld := ⟨0x202 + 32 * n, 5, 0⟩
/-! SEC_GRANT (05 SEC-10) -/
def A.SEC_GRANT (n : Nat) : Nat := 0x203 + 32 * n
def F.SEC_GRANT_FSW (n : Nat) : Fld := ⟨0x203 + 32 * n, 17, 14⟩
def F.SEC_GRANT_AOUT (n : Nat) : Fld := ⟨0x203 + 32 * n, 13, 12⟩
def F.SEC_GRANT_CAL (n : Nat) : Fld := ⟨0x203 + 32 * n, 11, 11⟩
def F.SEC_GRANT_TIA (n : Nat) : Fld := ⟨0x203 + 32 * n, 10, 9⟩
def F.SEC_GRANT_VEXC (n : Nat) : Fld := ⟨0x203 + 32 * n, 8, 8⟩
def F.SEC_GRANT_IEXC (n : Nat) : Fld := ⟨0x203 + 32 * n, 7, 4⟩
def F.SEC_GRANT_LANE (n : Nat) : Fld := ⟨0x203 + 32 * n, 3, 0⟩
/-! SEC_GRANT2 (05 SEC-11) -/
def A.SEC_GRANT2 (n : Nat) : Nat := 0x204 + 32 * n
def F.SEC_GRANT2_GP (n : Nat) : Fld := ⟨0x204 + 32 * n, 12, 5⟩
def F.SEC_GRANT2_WAKE (n : Nat) : Fld := ⟨0x204 + 32 * n, 4, 4⟩
def F.SEC_GRANT2_TWIN (n : Nat) : Fld := ⟨0x204 + 32 * n, 3, 3⟩
def F.SEC_GRANT2_NET (n : Nat) : Fld := ⟨0x204 + 32 * n, 2, 2⟩
def F.SEC_GRANT2_UTBL (n : Nat) : Fld := ⟨0x204 + 32 * n, 1, 1⟩
def F.SEC_GRANT2_FLASH (n : Nat) : Fld := ⟨0x204 + 32 * n, 0, 0⟩
/-! SEC_DESC (05 SEC-12) -/
def A.SEC_DESC (n : Nat) : Nat := 0x205 + 32 * n
def F.SEC_DESC_DLEN (n : Nat) : Fld := ⟨0x205 + 32 * n, 12, 6⟩
def F.SEC_DESC_DBASE (n : Nat) : Fld := ⟨0x205 + 32 * n, 5, 0⟩
/-! SEC_QOS (05 SEC-13) -/
def A.SEC_QOS (n : Nat) : Nat := 0x206 + 32 * n
def F.SEC_QOS_HBW (n : Nat) : Fld := ⟨0x206 + 32 * n, 17, 8⟩
def F.SEC_QOS_NTX (n : Nat) : Fld := ⟨0x206 + 32 * n, 7, 4⟩
def F.SEC_QOS_SHARE (n : Nat) : Fld := ⟨0x206 + 32 * n, 3, 0⟩
/-! SEC_EQ (05 SEC-13) -/
def A.SEC_EQ (n : Nat) : Nat := 0x207 + 32 * n
def F.SEC_EQ_EQ (n : Nat) : Fld := ⟨0x207 + 32 * n, 17, 0⟩
/-! SEC_LTQ (05 SEC-13) -/
def A.SEC_LTQ (n : Nat) : Nat := 0x208 + 32 * n
def F.SEC_LTQ_LTQ (n : Nat) : Fld := ⟨0x208 + 32 * n, 9, 0⟩
/-! SEC_LTUSED (05 SEC-14) -/
def A.SEC_LTUSED (n : Nat) : Nat := 0x209 + 32 * n
def F.SEC_LTUSED_USED (n : Nat) : Fld := ⟨0x209 + 32 * n, 17, 0⟩
/-! SEC_WDT (05 SEC-15) -/
def A.SEC_WDT (n : Nat) : Nat := 0x20A + 32 * n
def F.SEC_WDT_WARN (n : Nat) : Fld := ⟨0x20A + 32 * n, 17, 12⟩
def F.SEC_WDT_LIM (n : Nat) : Fld := ⟨0x20A + 32 * n, 11, 0⟩
/-! SEC_WDK (05 SEC-15) -/
def A.SEC_WDK (n : Nat) : Nat := 0x20B + 32 * n
def F.SEC_WDK_KICK (n : Nat) : Fld := ⟨0x20B + 32 * n, 17, 0⟩
/-! SEC_EVL (05 SEC-16) -/
def A.SEC_EVL (n : Nat) : Nat := 0x20C + 32 * n
def F.SEC_EVL_EV (n : Nat) : Fld := ⟨0x20C + 32 * n, 15, 0⟩
/-! SEC_EVH (05 SEC-16) -/
def A.SEC_EVH (n : Nat) : Nat := 0x20D + 32 * n
def F.SEC_EVH_EV (n : Nat) : Fld := ⟨0x20D + 32 * n, 15, 0⟩
/-! SEC_SUPV (05 SEC-16) -/
def A.SEC_SUPV (n : Nat) : Nat := 0x20E + 32 * n
def F.SEC_SUPV_SET (n : Nat) : Fld := ⟨0x20E + 32 * n, 0, 0⟩
/-! SEC_DBELL (05 SEC-16) -/
def A.SEC_DBELL (n : Nat) : Nat := 0x20F + 32 * n
def F.SEC_DBELL_VAL (n : Nat) : Fld := ⟨0x20F + 32 * n, 17, 0⟩
/-! SEC_VML (05 SEC-17) -/
def A.SEC_VML (n k : Nat) : Nat := 0x210 + 32 * n + 2 * k
def F.SEC_VML_MASK (n k : Nat) : Fld := ⟨0x210 + 32 * n + 2 * k, 15, 0⟩
/-! SEC_VMH (05 SEC-17) -/
def A.SEC_VMH (n k : Nat) : Nat := 0x211 + 32 * n + 2 * k
def F.SEC_VMH_MASK (n k : Nat) : Fld := ⟨0x211 + 32 * n + 2 * k, 15, 0⟩
/-! SEC_VRT (05 SEC-18) -/
def A.SEC_VRT (n k : Nat) : Nat := 0x218 + 32 * n + k
def F.SEC_VRT_ACT (n k : Nat) : Fld := ⟨0x218 + 32 * n + k, 8, 8⟩
def F.SEC_VRT_POL (n k : Nat) : Fld := ⟨0x218 + 32 * n + k, 7, 7⟩
def F.SEC_VRT_GP (n k : Nat) : Fld := ⟨0x218 + 32 * n + k, 6, 4⟩
def F.SEC_VRT_GPEN (n k : Nat) : Fld := ⟨0x218 + 32 * n + k, 3, 3⟩
def F.SEC_VRT_TWIN (n k : Nat) : Fld := ⟨0x218 + 32 * n + k, 2, 2⟩
def F.SEC_VRT_NET (n k : Nat) : Fld := ⟨0x218 + 32 * n + k, 1, 1⟩
def F.SEC_VRT_HIRQ (n k : Nat) : Fld := ⟨0x218 + 32 * n + k, 0, 0⟩
/-! SEC_STAT (05 SEC-19) -/
def A.SEC_STAT (n : Nat) : Nat := 0x21C + 32 * n
def F.SEC_STAT_RCNT (n : Nat) : Fld := ⟨0x21C + 32 * n, 17, 14⟩
def F.SEC_STAT_CAUSE (n : Nat) : Fld := ⟨0x21C + 32 * n, 13, 10⟩
def F.SEC_STAT_WKBAD (n : Nat) : Fld := ⟨0x21C + 32 * n, 9, 6⟩
def F.SEC_STAT_GREJ (n : Nat) : Fld := ⟨0x21C + 32 * n, 5, 5⟩
def F.SEC_STAT_CREJ (n : Nat) : Fld := ⟨0x21C + 32 * n, 4, 4⟩
def F.SEC_STAT_LTX (n : Nat) : Fld := ⟨0x21C + 32 * n, 3, 3⟩
def F.SEC_STAT_VNDROP (n : Nat) : Fld := ⟨0x21C + 32 * n, 2, 0⟩
/-! SEC_HATT (05 SEC-20) -/
def A.SEC_HATT : Nat := 0x21D
def F.SEC_HATT_RESTRICT : Fld := ⟨0x21D, 2, 2⟩
def F.SEC_HATT_SECT : Fld := ⟨0x21D, 1, 0⟩
/-! LOCK_ST (05 SEC-21) -/
def A.LOCK_ST (k : Nat) : Nat := 0x280 + k
def F.LOCK_ST_HTIME (k : Nat) : Fld := ⟨0x280 + k, 17, 9⟩
def F.LOCK_ST_REVOKED (k : Nat) : Fld := ⟨0x280 + k, 8, 8⟩
def F.LOCK_ST_WAIT (k : Nat) : Fld := ⟨0x280 + k, 7, 4⟩
def F.LOCK_ST_ABAND (k : Nat) : Fld := ⟨0x280 + k, 3, 3⟩
def F.LOCK_ST_HELD (k : Nat) : Fld := ⟨0x280 + k, 2, 2⟩
def F.LOCK_ST_HOLDER (k : Nat) : Fld := ⟨0x280 + k, 1, 0⟩
/-! LOCK_PRI (05 SEC-22) -/
def A.LOCK_PRI : Nat := 0x290
def F.LOCK_PRI_PRI : Fld := ⟨0x290, 7, 0⟩
/-! LOCK_HOLDMAX (05 SEC-22) -/
def A.LOCK_HOLDMAX : Nat := 0x291
def F.LOCK_HOLDMAX_HOLDMAX : Fld := ⟨0x291, 11, 0⟩
/-! LOCK_NH (05 SEC-22) -/
def A.LOCK_NH : Nat := 0x292
def F.LOCK_NH_CLR : Fld := ⟨0x292, 16, 16⟩
def F.LOCK_NH_NH : Fld := ⟨0x292, 15, 0⟩
/-! LANE_STATUS (09 LAN-7) -/
def A.LANE_STATUS (i : Nat) : Nat := 0x300 + 64 * i
def F.LANE_STATUS_MODE (i : Nat) : Fld := ⟨0x300 + 64 * i, 17, 14⟩
def F.LANE_STATUS_FCNT (i : Nat) : Fld := ⟨0x300 + 64 * i, 13, 9⟩
def F.LANE_STATUS_BANK (i : Nat) : Fld := ⟨0x300 + 64 * i, 8, 8⟩
def F.LANE_STATUS_DESC (i : Nat) : Fld := ⟨0x300 + 64 * i, 7, 2⟩
def F.LANE_STATUS_OVF (i : Nat) : Fld := ⟨0x300 + 64 * i, 1, 1⟩
def F.LANE_STATUS_DONE (i : Nat) : Fld := ⟨0x300 + 64 * i, 0, 0⟩
/-! LANE_FLAG (09 LAN-7) -/
def A.LANE_FLAG (i : Nat) : Nat := 0x301 + 64 * i
def F.LANE_FLAG_BADM (i : Nat) : Fld := ⟨0x301 + 64 * i, 6, 6⟩
def F.LANE_FLAG_LTXD (i : Nat) : Fld := ⟨0x301 + 64 * i, 5, 5⟩
def F.LANE_FLAG_TRGX (i : Nat) : Fld := ⟨0x301 + 64 * i, 4, 4⟩
def F.LANE_FLAG_BKWX (i : Nat) : Fld := ⟨0x301 + 64 * i, 3, 3⟩
def F.LANE_FLAG_CLIP (i : Nat) : Fld := ⟨0x301 + 64 * i, 2, 2⟩
def F.LANE_FLAG_SHM (i : Nat) : Fld := ⟨0x301 + 64 * i, 1, 1⟩
def F.LANE_FLAG_SHTO (i : Nat) : Fld := ⟨0x301 + 64 * i, 0, 0⟩
/-! LANE_CTL (09 LAN-8) -/
def A.LANE_CTL (i : Nat) : Nat := 0x302 + 64 * i
def F.LANE_CTL_TRIG (i : Nat) : Fld := ⟨0x302 + 64 * i, 17, 16⟩
def F.LANE_CTL_STR (i : Nat) : Fld := ⟨0x302 + 64 * i, 15, 15⟩
def F.LANE_CTL_CNT (i : Nat) : Fld := ⟨0x302 + 64 * i, 11, 0⟩
/-! LANE_SCAN (09 LAN-8) -/
def A.LANE_SCAN (i : Nat) : Nat := 0x303 + 64 * i
def F.LANE_SCAN_LEN (i : Nat) : Fld := ⟨0x303 + 64 * i, 11, 8⟩
def F.LANE_SCAN_SPE (i : Nat) : Fld := ⟨0x303 + 64 * i, 7, 0⟩
/-! LANE_LIST (09 LAN-8) -/
def A.LANE_LIST (i j : Nat) : Nat := 0x304 + 64 * i + j
def F.LANE_LIST_ENTRY (i j : Nat) : Fld := ⟨0x304 + 64 * i + j, 17, 0⟩
/-! LANE_SHTOL (09 LAN-9) -/
def A.LANE_SHTOL (i : Nat) : Nat := 0x30A + 64 * i
def F.LANE_SHTOL_SHTOL (i : Nat) : Fld := ⟨0x30A + 64 * i, 17, 0⟩
/-! LANE_SHST (09 LAN-9) -/
def A.LANE_SHST (i : Nat) : Nat := 0x30B + 64 * i
def F.LANE_SHST_SHWAIT (i : Nat) : Fld := ⟨0x30B + 64 * i, 17, 12⟩
def F.LANE_SHST_MISCNT (i : Nat) : Fld := ⟨0x30B + 64 * i, 11, 6⟩
def F.LANE_SHST_TMOCNT (i : Nat) : Fld := ⟨0x30B + 64 * i, 5, 0⟩
/-! LANE_SEQ (09 LAN-9) -/
def A.LANE_SEQ (i : Nat) : Nat := 0x30C + 64 * i
def F.LANE_SEQ_SEQ (i : Nat) : Fld := ⟨0x30C + 64 * i, 17, 0⟩
/-! LANE_DISAGREE (09 LAN-9) -/
def A.LANE_DISAGREE (i : Nat) : Nat := 0x30D + 64 * i
def F.LANE_DISAGREE_CLR (i : Nat) : Fld := ⟨0x30D + 64 * i, 16, 16⟩
def F.LANE_DISAGREE_COUNT (i : Nat) : Fld := ⟨0x30D + 64 * i, 15, 0⟩
/-! LANE_HCMD (09 LAN-9) -/
def A.LANE_HCMD (i : Nat) : Nat := 0x30E + 64 * i
def F.LANE_HCMD_PARAM (i : Nat) : Fld := ⟨0x30E + 64 * i, 17, 6⟩
def F.LANE_HCMD_TRG (i : Nat) : Fld := ⟨0x30E + 64 * i, 4, 4⟩
def F.LANE_HCMD_MODE (i : Nat) : Fld := ⟨0x30E + 64 * i, 3, 0⟩
/-! LANE_STRST (09 LAN-9) -/
def A.LANE_STRST (i : Nat) : Nat := 0x30F + 64 * i
def F.LANE_STRST_OVW (i : Nat) : Fld := ⟨0x30F + 64 * i, 14, 7⟩
def F.LANE_STRST_SCNT (i : Nat) : Fld := ⟨0x30F + 64 * i, 6, 0⟩
/-! DESC_W0 (08 AFE-11) -/
def A.DESC_W0 (d : Nat) : Nat := 0x400 + 4 * d
def F.DESC_W0_POS (d : Nat) : Fld := ⟨0x400 + 4 * d, 17, 12⟩
def F.DESC_W0_NEG (d : Nat) : Fld := ⟨0x400 + 4 * d, 11, 6⟩
def F.DESC_W0_AUX (d : Nat) : Fld := ⟨0x400 + 4 * d, 5, 0⟩
/-! DESC_W1 (08 AFE-11) -/
def A.DESC_W1 (d : Nat) : Nat := 0x401 + 4 * d
def F.DESC_W1_GAIN (d : Nat) : Fld := ⟨0x401 + 4 * d, 17, 15⟩
def F.DESC_W1_WIRE (d : Nat) : Fld := ⟨0x401 + 4 * d, 14, 12⟩
def F.DESC_W1_REFSEL (d : Nat) : Fld := ⟨0x401 + 4 * d, 11, 10⟩
def F.DESC_W1_BO (d : Nat) : Fld := ⟨0x401 + 4 * d, 9, 8⟩
def F.DESC_W1_BOCONT (d : Nat) : Fld := ⟨0x401 + 4 * d, 7, 7⟩
def F.DESC_W1_FPROF (d : Nat) : Fld := ⟨0x401 + 4 * d, 6, 4⟩
def F.DESC_W1_EXCMASK (d : Nat) : Fld := ⟨0x401 + 4 * d, 3, 0⟩
/-! DESC_W2 (08 AFE-11) -/
def A.DESC_W2 (d : Nat) : Nat := 0x402 + 4 * d
def F.DESC_W2_CURVE (d : Nat) : Fld := ⟨0x402 + 4 * d, 17, 13⟩
def F.DESC_W2_EXP (d : Nat) : Fld := ⟨0x402 + 4 * d, 12, 8⟩
def F.DESC_W2_THRSET (d : Nat) : Fld := ⟨0x402 + 4 * d, 7, 5⟩
def F.DESC_W2_ROT (d : Nat) : Fld := ⟨0x402 + 4 * d, 4, 4⟩
def F.DESC_W2_LEAD (d : Nat) : Fld := ⟨0x402 + 4 * d, 3, 0⟩
/-! DESC_W3 (08 AFE-11) -/
def A.DESC_W3 (d : Nat) : Nat := 0x403 + 4 * d
def F.DESC_W3_CMLO (d : Nat) : Fld := ⟨0x403 + 4 * d, 17, 12⟩
def F.DESC_W3_CMHI (d : Nat) : Fld := ⟨0x403 + 4 * d, 11, 6⟩
/-! PROF_W0 (09 LAN-10) -/
def A.PROF_W0 (p : Nat) : Nat := 0x500 + 8 * p
def F.PROF_W0_CRV (p : Nat) : Fld := ⟨0x500 + 8 * p, 17, 17⟩
def F.PROF_W0_SYM (p : Nat) : Fld := ⟨0x500 + 8 * p, 16, 16⟩
def F.PROF_W0_MAB (p : Nat) : Fld := ⟨0x500 + 8 * p, 15, 15⟩
def F.PROF_W0_CIC4 (p : Nat) : Fld := ⟨0x500 + 8 * p, 14, 14⟩
def F.PROF_W0_DCM1 (p : Nat) : Fld := ⟨0x500 + 8 * p, 13, 4⟩
def F.PROF_W0_DF (p : Nat) : Fld := ⟨0x500 + 8 * p, 3, 2⟩
/-! PROF_W1 (09 LAN-10) -/
def A.PROF_W1 (p : Nat) : Nat := 0x501 + 8 * p
def F.PROF_W1_S1 (p : Nat) : Fld := ⟨0x501 + 8 * p, 17, 12⟩
def F.PROF_W1_S2 (p : Nat) : Fld := ⟨0x501 + 8 * p, 11, 6⟩
def F.PROF_W1_S3 (p : Nat) : Fld := ⟨0x501 + 8 * p, 5, 0⟩
/-! PROF_W2 (09 LAN-10) -/
def A.PROF_W2 (p : Nat) : Nat := 0x502 + 8 * p
def F.PROF_W2_NTAPS (p : Nat) : Fld := ⟨0x502 + 8 * p, 17, 11⟩
/-! PROF_W3 (09 LAN-10) -/
def A.PROF_W3 (p : Nat) : Nat := 0x503 + 8 * p
def F.PROF_W3_LM1 (p : Nat) : Fld := ⟨0x503 + 8 * p, 11, 0⟩
/-! PROF_W4 (09 LAN-10) -/
def A.PROF_W4 (p : Nat) : Nat := 0x504 + 8 * p
def F.PROF_W4_MA_SCALE (p : Nat) : Fld := ⟨0x504 + 8 * p, 17, 0⟩
/-! THR_W0 (09 LAN-11) -/
def A.THR_W0 (t : Nat) : Nat := 0x540 + 8 * t
def F.THR_W0_HI (t : Nat) : Fld := ⟨0x540 + 8 * t, 17, 0⟩
/-! THR_W1 (09 LAN-11) -/
def A.THR_W1 (t : Nat) : Nat := 0x541 + 8 * t
def F.THR_W1_LO (t : Nat) : Fld := ⟨0x541 + 8 * t, 17, 0⟩
/-! THR_W2 (09 LAN-11) -/
def A.THR_W2 (t : Nat) : Nat := 0x542 + 8 * t
def F.THR_W2_HYS (t : Nat) : Fld := ⟨0x542 + 8 * t, 17, 0⟩
/-! THR_W3 (09 LAN-11) -/
def A.THR_W3 (t : Nat) : Nat := 0x543 + 8 * t
def F.THR_W3_TAP (t : Nat) : Fld := ⟨0x543 + 8 * t, 17, 16⟩
def F.THR_W3_HIEN (t : Nat) : Fld := ⟨0x543 + 8 * t, 15, 15⟩
def F.THR_W3_LOEN (t : Nat) : Fld := ⟨0x543 + 8 * t, 14, 14⟩
def F.THR_W3_PERSIST (t : Nat) : Fld := ⟨0x543 + 8 * t, 7, 0⟩
/-! IEXC_CTL (08 AFE-12) -/
def A.IEXC_CTL (n : Nat) : Nat := 0x580 + n
def F.IEXC_CTL_EN (n : Nat) : Fld := ⟨0x580 + n, 17, 17⟩
def F.IEXC_CTL_PULSE (n : Nat) : Fld := ⟨0x580 + n, 16, 16⟩
def F.IEXC_CTL_STEP (n : Nat) : Fld := ⟨0x580 + n, 15, 13⟩
def F.IEXC_CTL_PIN (n : Nat) : Fld := ⟨0x580 + n, 12, 8⟩
def F.IEXC_CTL_RTN (n : Nat) : Fld := ⟨0x580 + n, 7, 3⟩
def F.IEXC_CTL_LIFT (n : Nat) : Fld := ⟨0x580 + n, 2, 2⟩
def F.IEXC_CTL_PEND (n : Nat) : Fld := ⟨0x580 + n, 0, 0⟩
/-! VEXC_CTL (08 AFE-13) -/
def A.VEXC_CTL : Nat := 0x584
def F.VEXC_CTL_EN : Fld := ⟨0x584, 17, 17⟩
def F.VEXC_CTL_LVL : Fld := ⟨0x584, 16, 16⟩
def F.VEXC_CTL_SREG : Fld := ⟨0x584, 15, 15⟩
def F.VEXC_CTL_PULSE : Fld := ⟨0x584, 14, 14⟩
def F.VEXC_CTL_PEND : Fld := ⟨0x584, 0, 0⟩
/-! TIA_CTL (08 AFE-13) -/
def A.TIA_CTL (n : Nat) : Nat := 0x585 + n
def F.TIA_CTL_EN (n : Nat) : Fld := ⟨0x585 + n, 17, 17⟩
def F.TIA_CTL_FB (n : Nat) : Fld := ⟨0x585 + n, 16, 15⟩
def F.TIA_CTL_LP (n : Nat) : Fld := ⟨0x585 + n, 11, 10⟩
/-! AFE_STAT (08 AFE-14) -/
def A.AFE_STAT : Nat := 0x587
def F.AFE_STAT_CMPX : Fld := ⟨0x587, 17, 14⟩
def F.AFE_STAT_STEERX : Fld := ⟨0x587, 13, 10⟩
def F.AFE_STAT_TIASTX : Fld := ⟨0x587, 9, 8⟩
def F.AFE_STAT_TIASAT : Fld := ⟨0x587, 7, 6⟩
def F.AFE_STAT_VXLIM : Fld := ⟨0x587, 5, 5⟩
def F.AFE_STAT_VLLIM : Fld := ⟨0x587, 4, 4⟩
/-! AFE_CLMP0 (08 AFE-14) -/
def A.AFE_CLMP0 : Nat := 0x588
def F.AFE_CLMP0_AIN : Fld := ⟨0x588, 17, 0⟩
/-! AFE_CLMP1 (08 AFE-14) -/
def A.AFE_CLMP1 : Nat := 0x589
def F.AFE_CLMP1_AIN : Fld := ⟨0x589, 13, 8⟩
def F.AFE_CLMP1_LPCL : Fld := ⟨0x589, 7, 4⟩
def F.AFE_CLMP1_LPLIM : Fld := ⟨0x589, 3, 0⟩
/-! CRV_PA (10 CAL-10) -/
def A.CRV_PA (n : Nat) : Nat := 0x600 + n
def F.CRV_PA_PTR (n : Nat) : Fld := ⟨0x600 + n, 11, 0⟩
/-! CRV_PAH (10 CAL-10) -/
def A.CRV_PAH : Nat := 0x604
def F.CRV_PAH_PTR : Fld := ⟨0x604, 11, 0⟩
/-! CRV_PD (10 CAL-10) -/
def A.CRV_PD : Nat := 0x605
def F.CRV_PD_DATA : Fld := ⟨0x605, 17, 0⟩
/-! CRV_STAT (10 CAL-10) -/
def A.CRV_STAT : Nat := 0x606
def F.CRV_STAT_CJFB : Fld := ⟨0x606, 9, 9⟩
def F.CRV_STAT_UTLD : Fld := ⟨0x606, 8, 8⟩
def F.CRV_STAT_UTV : Fld := ⟨0x606, 7, 0⟩
/-! CAL_CTL (10 CAL-11) -/
def A.CAL_CTL : Nat := 0x608
def F.CAL_CTL_AGE : Fld := ⟨0x608, 17, 10⟩
def F.CAL_CTL_DT : Fld := ⟨0x608, 9, 4⟩
def F.CAL_CTL_FSTORE : Fld := ⟨0x608, 3, 3⟩
/-! CAL_STAT (10 CAL-11) -/
def A.CAL_STAT : Nat := 0x609
def F.CAL_STAT_STALE : Fld := ⟨0x609, 17, 14⟩
def F.CAL_STAT_ACTIVE : Fld := ⟨0x609, 13, 13⟩
def F.CAL_STAT_ACTSEC : Fld := ⟨0x609, 12, 11⟩
def F.CAL_STAT_QCNT : Fld := ⟨0x609, 10, 9⟩
def F.CAL_STAT_PSTORE : Fld := ⟨0x609, 8, 8⟩
def F.CAL_STAT_PREPL : Fld := ⟨0x609, 7, 4⟩
def F.CAL_STAT_PCLR : Fld := ⟨0x609, 3, 3⟩
/-! CAL_RES (10 CAL-11) -/
def A.CAL_RES (n : Nat) : Nat := 0x60A + n
def F.CAL_RES_KIND (n : Nat) : Fld := ⟨0x60A + n, 17, 15⟩
def F.CAL_RES_CODE (n : Nat) : Fld := ⟨0x60A + n, 14, 12⟩
def F.CAL_RES_FG (n : Nat) : Fld := ⟨0x60A + n, 11, 11⟩
def F.CAL_RES_LANE (n : Nat) : Fld := ⟨0x60A + n, 10, 9⟩
/-! OUT_FSW (11 OUT-8) -/
def A.OUT_FSW (n : Nat) : Nat := 0x680 + n
def F.OUT_FSW_STATE (n : Nat) : Fld := ⟨0x680 + n, 17, 15⟩
def F.OUT_FSW_CMD (n : Nat) : Fld := ⟨0x680 + n, 14, 14⟩
def F.OUT_FSW_PEND (n : Nat) : Fld := ⟨0x680 + n, 13, 13⟩
def F.OUT_FSW_RCNT (n : Nat) : Fld := ⟨0x680 + n, 12, 9⟩
def F.OUT_FSW_DA (n : Nat) : Fld := ⟨0x680 + n, 8, 8⟩
def F.OUT_FSW_LATCH (n : Nat) : Fld := ⟨0x680 + n, 7, 7⟩
def F.OUT_FSW_RLIMF (n : Nat) : Fld := ⟨0x680 + n, 6, 6⟩
def F.OUT_FSW_REV (n : Nat) : Fld := ⟨0x680 + n, 5, 5⟩
def F.OUT_FSW_BF (n : Nat) : Fld := ⟨0x680 + n, 4, 4⟩
def F.OUT_FSW_TSD (n : Nat) : Fld := ⟨0x680 + n, 3, 3⟩
def F.OUT_FSW_OC (n : Nat) : Fld := ⟨0x680 + n, 2, 2⟩
def F.OUT_FSW_BFX (n : Nat) : Fld := ⟨0x680 + n, 1, 1⟩
/-! OUT_FSWCFG (11 OUT-8) -/
def A.OUT_FSWCFG (n : Nat) : Nat := 0x684 + n
def F.OUT_FSWCFG_RETRY (n : Nat) : Fld := ⟨0x684 + n, 17, 16⟩
def F.OUT_FSWCFG_RLIM (n : Nat) : Fld := ⟨0x684 + n, 15, 12⟩
def F.OUT_FSWCFG_PEN (n : Nat) : Fld := ⟨0x684 + n, 11, 11⟩
def F.OUT_FSWCFG_PARTNER (n : Nat) : Fld := ⟨0x684 + n, 10, 9⟩
/-! OUT_DISP (11 OUT-9) -/
def A.OUT_DISP : Nat := 0x688
def F.OUT_DISP_SLVL : Fld := ⟨0x688, 15, 12⟩
def F.OUT_DISP_DAO : Fld := ⟨0x688, 11, 8⟩
def F.OUT_DISP_DFSW : Fld := ⟨0x688, 7, 0⟩
/-! OUT_AOSAFE (11 OUT-10) -/
def A.OUT_AOSAFE (n : Nat) : Nat := 0x689 + n
def F.OUT_AOSAFE_SAFE (n : Nat) : Fld := ⟨0x689 + n, 17, 0⟩
/-! OUT_AOPARK (11 OUT-10) -/
def A.OUT_AOPARK (n : Nat) : Nat := 0x68B + n
def F.OUT_AOPARK_PARK (n : Nat) : Fld := ⟨0x68B + n, 17, 0⟩
/-! OUT_AOCTL (11 OUT-10) -/
def A.OUT_AOCTL (n : Nat) : Nat := 0x68D + n
def F.OUT_AOCTL_EN (n : Nat) : Fld := ⟨0x68D + n, 17, 17⟩
def F.OUT_AOCTL_RNG (n : Nat) : Fld := ⟨0x68D + n, 16, 15⟩
def F.OUT_AOCTL_FACT (n : Nat) : Fld := ⟨0x68D + n, 14, 13⟩
def F.OUT_AOCTL_LIM43 (n : Nat) : Fld := ⟨0x68D + n, 12, 12⟩
def F.OUT_AOCTL_PEND (n : Nat) : Fld := ⟨0x68D + n, 0, 0⟩
/-! OUT_AOCODE (11 OUT-10) -/
def A.OUT_AOCODE (n : Nat) : Nat := 0x68F + n
def F.OUT_AOCODE_CODE (n : Nat) : Fld := ⟨0x68F + n, 17, 0⟩
/-! OUT_SHCTL (11 OUT-9) -/
def A.OUT_SHCTL : Nat := 0x691
def F.OUT_SHCTL_BRK : Fld := ⟨0x691, 11, 6⟩
def F.OUT_SHCTL_SHA : Fld := ⟨0x691, 5, 4⟩
def F.OUT_SHCTL_SHF : Fld := ⟨0x691, 3, 0⟩
/-! OUT_AOST (11 OUT-10) -/
def A.OUT_AOST (n : Nat) : Nat := 0x692 + n
def F.OUT_AOST_STATE (n : Nat) : Fld := ⟨0x692 + n, 17, 15⟩
def F.OUT_AOST_RANGEBUSY (n : Nat) : Fld := ⟨0x692 + n, 14, 14⟩
def F.OUT_AOST_CPEND (n : Nat) : Fld := ⟨0x692 + n, 13, 13⟩
def F.OUT_AOST_DA (n : Nat) : Fld := ⟨0x692 + n, 12, 12⟩
def F.OUT_AOST_VLOW (n : Nat) : Fld := ⟨0x692 + n, 4, 4⟩
def F.OUT_AOST_OVL (n : Nat) : Fld := ⟨0x692 + n, 3, 3⟩
def F.OUT_AOST_COMP (n : Nat) : Fld := ⟨0x692 + n, 2, 2⟩
def F.OUT_AOST_FIGHT (n : Nat) : Fld := ⟨0x692 + n, 1, 1⟩
def F.OUT_AOST_RNGX (n : Nat) : Fld := ⟨0x692 + n, 0, 0⟩
/-! OUT_AORB (11 OUT-10) -/
def A.OUT_AORB (n : Nat) : Nat := 0x694 + n
def F.OUT_AORB_RB (n : Nat) : Fld := ⟨0x694 + n, 17, 0⟩
/-! OUT_STAT (11 OUT-9) -/
def A.OUT_STAT : Nat := 0x696
def F.OUT_STAT_VUV : Fld := ⟨0x696, 17, 17⟩
def F.OUT_STAT_CLR : Fld := ⟨0x696, 16, 16⟩
def F.OUT_STAT_REPL : Fld := ⟨0x696, 15, 0⟩
/-! HST_CFG (13 HST-7) -/
def A.HST_CFG : Nat := 0x700
def F.HST_CFG_DIRQ : Fld := ⟨0x700, 17, 17⟩
/-! HST_STAT (13 HST-7) -/
def A.HST_STAT : Nat := 0x701
def F.HST_STAT_STATE : Fld := ⟨0x701, 17, 16⟩
def F.HST_STAT_OP : Fld := ⟨0x701, 15, 12⟩
def F.HST_STAT_SECT : Fld := ⟨0x701, 11, 10⟩
def F.HST_STAT_HWEXP : Fld := ⟨0x701, 9, 9⟩
def F.HST_STAT_SERVED : Fld := ⟨0x701, 8, 0⟩
/-! HOST_WDT (13 HST-7) -/
def A.HOST_WDT : Nat := 0x702
def F.HOST_WDT_ACT : Fld := ⟨0x702, 17, 17⟩
def F.HOST_WDT_LIM : Fld := ⟨0x702, 11, 0⟩
/-! HST_WDC (13 HST-7) -/
def A.HST_WDC : Nat := 0x703
def F.HST_WDC_COUNT : Fld := ⟨0x703, 11, 0⟩
/-! HST_ERRA (13 HST-7) -/
def A.HST_ERRA : Nat := 0x704
def F.HST_ERRA_HDRC : Fld := ⟨0x704, 17, 12⟩
def F.HST_ERRA_DATC : Fld := ⟨0x704, 11, 6⟩
def F.HST_ERRA_ILLC : Fld := ⟨0x704, 5, 0⟩
/-! HST_ERRB (13 HST-7) -/
def A.HST_ERRB : Nat := 0x705
def F.HST_ERRB_BUSYC : Fld := ⟨0x705, 17, 15⟩
def F.HST_ERRB_DENC : Fld := ⟨0x705, 14, 12⟩
def F.HST_ERRB_RNGC : Fld := ⟨0x705, 11, 9⟩
def F.HST_ERRB_TRUNC : Fld := ⟨0x705, 8, 6⟩
def F.HST_ERRB_LONG : Fld := ⟨0x705, 5, 3⟩
def F.HST_ERRB_UNCOLL : Fld := ⟨0x705, 2, 1⟩
def F.HST_ERRB_CLR : Fld := ⟨0x705, 0, 0⟩
/-! VLOG (13 HST) -/
def A.VLOG (i : Nat) : Nat := 0x720 + i
def F.VLOG_WORD (i : Nat) : Fld := ⟨0x720 + i, 17, 0⟩
/-! TW_CTL (14 TWN-7) -/
def A.TW_CTL : Nat := 0x780
def F.TW_CTL_CMD : Fld := ⟨0x780, 17, 16⟩
def F.TW_CTL_CLR : Fld := ⟨0x780, 2, 2⟩
def F.TW_CTL_PREF : Fld := ⟨0x780, 1, 1⟩
def F.TW_CTL_EN : Fld := ⟨0x780, 0, 0⟩
/-! TW_CFG (14 TWN-7) -/
def A.TW_CFG : Nat := 0x781
def F.TW_CFG_MISS : Fld := ⟨0x781, 14, 12⟩
def F.TW_CFG_RETRY : Fld := ⟨0x781, 11, 4⟩
/-! TW_HBWIN (14 TWN-7) -/
def A.TW_HBWIN : Nat := 0x782
def F.TW_HBWIN_HBWIN : Fld := ⟨0x782, 17, 0⟩
/-! TW_STAT (14 TWN-7) -/
def A.TW_STAT : Nat := 0x783
def F.TW_STAT_ROLE : Fld := ⟨0x783, 17, 16⟩
def F.TW_STAT_LINK : Fld := ⟨0x783, 15, 15⟩
def F.TW_STAT_PRES : Fld := ⟨0x783, 14, 14⟩
def F.TW_STAT_CLMLINE : Fld := ⟨0x783, 13, 13⟩
def F.TW_STAT_CLMOWN : Fld := ⟨0x783, 12, 12⟩
def F.TW_STAT_TRN : Fld := ⟨0x783, 11, 11⟩
def F.TW_STAT_SPLIT : Fld := ⟨0x783, 10, 10⟩
def F.TW_STAT_CLMCOL : Fld := ⟨0x783, 9, 9⟩
def F.TW_STAT_MIRLATE : Fld := ⟨0x783, 8, 8⟩
def F.TW_STAT_PERX : Fld := ⟨0x783, 7, 7⟩
def F.TW_STAT_MISSCNT : Fld := ⟨0x783, 6, 4⟩
/-! TW_INC (14 TWN-7) -/
def A.TW_INC : Nat := 0x784
def F.TW_INC_INC : Fld := ⟨0x784, 17, 0⟩
/-! TW_PINC (14 TWN-7) -/
def A.TW_PINC : Nat := 0x785
def F.TW_PINC_PINC : Fld := ⟨0x785, 17, 0⟩
/-! TW_MSYNC (14 TWN-7) -/
def A.TW_MSYNC : Nat := 0x786
def F.TW_MSYNC_FULL : Fld := ⟨0x786, 17, 17⟩
def F.TW_MSYNC_AGE : Fld := ⟨0x786, 11, 0⟩
/-! TW_PVL (14 TWN-7) -/
def A.TW_PVL : Nat := 0x787
def F.TW_PVL_PVL : Fld := ⟨0x787, 15, 0⟩
/-! TW_ERRA (14 TWN-7) -/
def A.TW_ERRA : Nat := 0x788
def F.TW_ERRA_CRCE : Fld := ⟨0x788, 17, 12⟩
def F.TW_ERRA_OOS : Fld := ⟨0x788, 11, 6⟩
def F.TW_ERRA_RTX : Fld := ⟨0x788, 5, 0⟩
/-! TW_ERRB (14 TWN-7) -/
def A.TW_ERRB : Nat := 0x789
def F.TW_ERRB_CODEE : Fld := ⟨0x789, 17, 15⟩
def F.TW_ERRB_TYPX : Fld := ⟨0x789, 14, 12⟩
def F.TW_ERRB_MIRX : Fld := ⟨0x789, 11, 9⟩
def F.TW_ERRB_BABL : Fld := ⟨0x789, 8, 6⟩
def F.TW_ERRB_TXLOST : Fld := ⟨0x789, 5, 3⟩
def F.TW_ERRB_COLL : Fld := ⟨0x789, 2, 0⟩
/-! TW_RXBASE (14 TWN-7) -/
def A.TW_RXBASE (n : Nat) : Nat := 0x790 + n
def F.TW_RXBASE_BASE (n : Nat) : Fld := ⟨0x790 + n, 17, 0⟩
/-! TW_RX (14 TWN-7) -/
def A.TW_RX (n : Nat) : Nat := 0x794 + n
def F.TW_RX_POP (n : Nat) : Fld := ⟨0x794 + n, 17, 17⟩
def F.TW_RX_DOWNC (n : Nat) : Fld := ⟨0x794 + n, 10, 8⟩
def F.TW_RX_HEAD (n : Nat) : Fld := ⟨0x794 + n, 7, 6⟩
def F.TW_RX_DROP (n : Nat) : Fld := ⟨0x794 + n, 5, 3⟩
def F.TW_RX_CNT (n : Nat) : Fld := ⟨0x794 + n, 2, 0⟩
/-! FIR (09 R233) -/
def A.FIR (i b k : Nat) : Nat := 0x800 + 128 * i + 64 * b + k
def F.FIR_C (i b k : Nat) : Fld := ⟨0x800 + 128 * i + 64 * b + k, 17, 0⟩
/-! NET_CTL (15 NET-6) -/
def A.NET_CTL : Nat := 0xA00
def F.NET_CTL_IPEN : Fld := ⟨0xA00, 17, 17⟩
def F.NET_CTL_ANEN : Fld := ⟨0xA00, 16, 16⟩
def F.NET_CTL_AMP : Fld := ⟨0xA00, 15, 14⟩
def F.NET_CTL_FMS : Fld := ⟨0xA00, 13, 13⟩
def F.NET_CTL_TXTO : Fld := ⟨0xA00, 12, 0⟩
/-! NET_ETYPE (15 NET-6) -/
def A.NET_ETYPE : Nat := 0xA01
def F.NET_ETYPE_ETYPE : Fld := ⟨0xA01, 15, 0⟩
/-! NET_STAT (15 NET-6) -/
def A.NET_STAT : Nat := 0xA02
def F.NET_STAT_LINK : Fld := ⟨0xA02, 17, 16⟩
def F.NET_STAT_AMPA : Fld := ⟨0xA02, 15, 15⟩
def F.NET_STAT_MSA : Fld := ⟨0xA02, 14, 14⟩
def F.NET_STAT_SEQLOST : Fld := ⟨0xA02, 13, 10⟩
def F.NET_STAT_LDOWN : Fld := ⟨0xA02, 9, 7⟩
/-! NET_MAC (15 NET-6) -/
def A.NET_MAC (n : Nat) : Nat := 0xA03 + n
def F.NET_MAC_MAC (n : Nat) : Fld := ⟨0xA03 + n, 15, 0⟩
/-! NET_AUTH (15 NET-6) -/
def A.NET_AUTH : Nat := 0xA06
def F.NET_AUTH_AREQ : Fld := ⟨0xA06, 11, 8⟩
def F.NET_AUTH_KSL : Fld := ⟨0xA06, 7, 0⟩
/-! NET_VLAN (15 NET-6) -/
def A.NET_VLAN : Nat := 0xA07
def F.NET_VLAN_VEN : Fld := ⟨0xA07, 16, 16⟩
def F.NET_VLAN_TCI : Fld := ⟨0xA07, 15, 0⟩
/-! NET_IPH (15 NET-6) -/
def A.NET_IPH : Nat := 0xA08
def F.NET_IPH_IP : Fld := ⟨0xA08, 15, 0⟩
/-! NET_IPL (15 NET-6) -/
def A.NET_IPL : Nat := 0xA09
def F.NET_IPL_IP : Fld := ⟨0xA09, 15, 0⟩
/-! NET_GW (15 NET-6) -/
def A.NET_GW (n : Nat) : Nat := 0xA0A + n
def F.NET_GW_GW (n : Nat) : Fld := ⟨0xA0A + n, 15, 0⟩
/-! NET_UPORT (15 NET-6) -/
def A.NET_UPORT : Nat := 0xA0D
def F.NET_UPORT_PORT : Fld := ⟨0xA0D, 15, 0⟩
/-! NET_IPT (15 NET-6) -/
def A.NET_IPT : Nat := 0xA0E
def F.NET_IPT_TTL : Fld := ⟨0xA0E, 15, 8⟩
def F.NET_IPT_TOS : Fld := ⟨0xA0E, 7, 0⟩
/-! NET_TELEM (15 NET-6) -/
def A.NET_TELEM : Nat := 0xA0F
def F.NET_TELEM_TEN : Fld := ⟨0xA0F, 17, 17⟩
def F.NET_TELEM_TDROP : Fld := ⟨0xA0F, 16, 14⟩
def F.NET_TELEM_TPER : Fld := ⟨0xA0F, 11, 0⟩
/-! NET_TXSEQH (15 NET-7) -/
def A.NET_TXSEQH (n : Nat) : Nat := 0xA10 + 2 * n
def F.NET_TXSEQH_TXSEQ (n : Nat) : Fld := ⟨0xA10 + 2 * n, 15, 0⟩
/-! NET_TXSEQL (15 NET-7) -/
def A.NET_TXSEQL (n : Nat) : Nat := 0xA11 + 2 * n
def F.NET_TXSEQL_TXSEQ (n : Nat) : Fld := ⟨0xA11 + 2 * n, 15, 0⟩
/-! NET_RXSEQH (15 NET-7) -/
def A.NET_RXSEQH (n : Nat) : Nat := 0xA18 + 2 * n
def F.NET_RXSEQH_RXSEQ (n : Nat) : Fld := ⟨0xA18 + 2 * n, 15, 0⟩
/-! NET_RXSEQL (15 NET-7) -/
def A.NET_RXSEQL (n : Nat) : Nat := 0xA19 + 2 * n
def F.NET_RXSEQL_RXSEQ (n : Nat) : Fld := ⟨0xA19 + 2 * n, 15, 0⟩
/-! NET_RXBASE (15 NET-7) -/
def A.NET_RXBASE (n : Nat) : Nat := 0xA20 + n
def F.NET_RXBASE_BASE (n : Nat) : Fld := ⟨0xA20 + n, 17, 0⟩
/-! NET_RX (15 NET-7) -/
def A.NET_RX (n : Nat) : Nat := 0xA24 + n
def F.NET_RX_POP (n : Nat) : Fld := ⟨0xA24 + n, 17, 17⟩
def F.NET_RX_HEAD (n : Nat) : Fld := ⟨0xA24 + n, 7, 6⟩
def F.NET_RX_DROP (n : Nat) : Fld := ⟨0xA24 + n, 5, 3⟩
def F.NET_RX_CNT (n : Nat) : Fld := ⟨0xA24 + n, 2, 0⟩
/-! NET_DST (15 NET-7) -/
def A.NET_DST (n w : Nat) : Nat := 0xA30 + 8 * n + w
def F.NET_DST_DST (n w : Nat) : Fld := ⟨0xA30 + 8 * n + w, 15, 0⟩
/-! NET_ERRA (15 NET-8) -/
def A.NET_ERRA : Nat := 0xA50
def F.NET_ERRA_FCSE : Fld := ⟨0xA50, 17, 12⟩
def F.NET_ERRA_LENE : Fld := ⟨0xA50, 11, 6⟩
def F.NET_ERRA_TYPE : Fld := ⟨0xA50, 5, 0⟩
/-! NET_ERRB (15 NET-8) -/
def A.NET_ERRB : Nat := 0xA51
def F.NET_ERRB_TAGE : Fld := ⟨0xA51, 17, 12⟩
def F.NET_ERRB_RPLE : Fld := ⟨0xA51, 11, 6⟩
def F.NET_ERRB_HDRE : Fld := ⟨0xA51, 5, 0⟩
/-! NET_ERRC (15 NET-8) -/
def A.NET_ERRC : Nat := 0xA52
def F.NET_ERRC_RXDROP : Fld := ⟨0xA52, 17, 15⟩
def F.NET_ERRC_RXSTALE : Fld := ⟨0xA52, 14, 12⟩
def F.NET_ERRC_NAKSUP : Fld := ⟨0xA52, 11, 9⟩
def F.NET_ERRC_TXTO : Fld := ⟨0xA52, 8, 6⟩
def F.NET_ERRC_KEYX : Fld := ⟨0xA52, 5, 3⟩
def F.NET_ERRC_ACKDROP : Fld := ⟨0xA52, 2, 1⟩
def F.NET_ERRC_CLR : Fld := ⟨0xA52, 0, 0⟩
/-! MEM_HECC (12 MEM-10) -/
def A.MEM_HECC : Nat := 0xB00
def F.MEM_HECC_SCNT : Fld := ⟨0xB00, 17, 12⟩
def F.MEM_HECC_DCNT : Fld := ⟨0xB00, 11, 8⟩
def F.MEM_HECC_WBOVF : Fld := ⟨0xB00, 3, 3⟩
def F.MEM_HECC_SDED : Fld := ⟨0xB00, 2, 2⟩
def F.MEM_HECC_DED : Fld := ⟨0xB00, 1, 1⟩
def F.MEM_HECC_SBE : Fld := ⟨0xB00, 0, 0⟩
/-! MEM_HEADDR (12 MEM-10) -/
def A.MEM_HEADDR : Nat := 0xB01
def F.MEM_HEADDR_ADDR : Fld := ⟨0xB01, 15, 0⟩
/-! MEM_SCRUB (12 MEM-10) -/
def A.MEM_SCRUB : Nat := 0xB02
def F.MEM_SCRUB_EN : Fld := ⟨0xB02, 17, 17⟩
def F.MEM_SCRUB_PTR : Fld := ⟨0xB02, 15, 0⟩
/-! MEM_SCRPASS (12 MEM-10) -/
def A.MEM_SCRPASS : Nat := 0xB03
def F.MEM_SCRPASS_PASS : Fld := ⟨0xB03, 17, 0⟩
/-! MEM_MIR (12 MEM-10) -/
def A.MEM_MIR (n : Nat) : Nat := 0xB04 + n
def F.MEM_MIR_MIR (n : Nat) : Fld := ⟨0xB04 + n, 15, 0⟩
/-! MEM_THP (12 MEM-10) -/
def A.MEM_THP : Nat := 0xB08
def F.MEM_THP_PTR : Fld := ⟨0xB08, 8, 0⟩
/-! MEM_THD (12 MEM-10) -/
def A.MEM_THD : Nat := 0xB09
def F.MEM_THD_DATA : Fld := ⟨0xB09, 17, 0⟩
/-! MEM_VLOG (12 MEM-10) -/
def A.MEM_VLOG : Nat := 0xB0A
def F.MEM_VLOG_CLR : Fld := ⟨0xB0A, 17, 17⟩
def F.MEM_VLOG_HEAD : Fld := ⟨0xB0A, 16, 12⟩
def F.MEM_VLOG_CNT : Fld := ⟨0xB0A, 11, 6⟩
def F.MEM_VLOG_OVW : Fld := ⟨0xB0A, 5, 3⟩
def F.MEM_VLOG_DROP : Fld := ⟨0xB0A, 2, 0⟩
/-! FL_ADDR (12 MEM-10) -/
def A.FL_ADDR (n : Nat) : Nat := 0xB10 + 4 * n
def F.FL_ADDR_GRAN (n : Nat) : Fld := ⟨0xB10 + 4 * n, 14, 0⟩
/-! FL_HOFS (12 MEM-10) -/
def A.FL_HOFS (n : Nat) : Nat := 0xB11 + 4 * n
def F.FL_HOFS_HOFS (n : Nat) : Fld := ⟨0xB11 + 4 * n, 17, 0⟩
/-! FL_CMD (12 MEM-10) -/
def A.FL_CMD (n : Nat) : Nat := 0xB12 + 4 * n
def F.FL_CMD_OP (n : Nat) : Fld := ⟨0xB12 + 4 * n, 17, 15⟩
def F.FL_CMD_CNTM1 (n : Nat) : Fld := ⟨0xB12 + 4 * n, 14, 9⟩
/-! FL_RES (12 MEM-10) -/
def A.FL_RES (n : Nat) : Nat := 0xB13 + 4 * n
def F.FL_RES_STATE (n : Nat) : Fld := ⟨0xB13 + 4 * n, 17, 16⟩
def F.FL_RES_CODE (n : Nat) : Fld := ⟨0xB13 + 4 * n, 15, 12⟩
/-! FL_STAT (12 MEM-10) -/
def A.FL_STAT : Nat := 0xB20
def F.FL_STAT_AOP : Fld := ⟨0xB20, 17, 15⟩
def F.FL_STAT_ASEC : Fld := ⟨0xB20, 14, 13⟩
def F.FL_STAT_QCNT : Fld := ⟨0xB20, 12, 11⟩
def F.FL_STAT_SUSP : Fld := ⟨0xB20, 10, 10⟩
def F.FL_STAT_RECL : Fld := ⟨0xB20, 9, 9⟩
def F.FL_STAT_WEAR : Fld := ⟨0xB20, 8, 8⟩
def F.FL_STAT_EOL : Fld := ⟨0xB20, 7, 7⟩
def F.FL_STAT_POLF : Fld := ⟨0xB20, 6, 6⟩
/-! FL_PGSEL (12 MEM-10) -/
def A.FL_PGSEL : Nat := 0xB21
def F.FL_PGSEL_SUSPECT : Fld := ⟨0xB21, 17, 17⟩
def F.FL_PGSEL_PAGE : Fld := ⟨0xB21, 6, 0⟩
/-! FL_PGEC (12 MEM-10) -/
def A.FL_PGEC : Nat := 0xB22
def F.FL_PGEC_EC : Fld := ⟨0xB22, 17, 0⟩
/-! FL_ECMAX (12 MEM-10) -/
def A.FL_ECMAX : Nat := 0xB23
def F.FL_ECMAX_EC : Fld := ⟨0xB23, 17, 0⟩
/-! FL_JRNL (12 MEM-10) -/
def A.FL_JRNL : Nat := 0xB24
def F.FL_JRNL_HEADPG : Fld := ⟨0xB24, 17, 11⟩
def F.FL_JRNL_HEADREC : Fld := ⟨0xB24, 10, 4⟩
/-! MEM_OTPA (12 MEM-10) -/
def A.MEM_OTPA : Nat := 0xB30
def F.MEM_OTPA_ADDR : Fld := ⟨0xB30, 10, 0⟩
/-! MEM_OTPD (12 MEM-10) -/
def A.MEM_OTPD : Nat := 0xB31
def F.MEM_OTPD_DATA : Fld := ⟨0xB31, 7, 0⟩
/-! MEM_OTPST (12 MEM-10) -/
def A.MEM_OTPST : Nat := 0xB32
def F.MEM_OTPST_BUSY : Fld := ⟨0xB32, 17, 17⟩
def F.MEM_OTPST_FAIL : Fld := ⟨0xB32, 16, 16⟩
/-! MEM_KCV (12 MEM-10) -/
def A.MEM_KCV (k : Nat) : Nat := 0xB34 + k
def F.MEM_KCV_KVALID (k : Nat) : Fld := ⟨0xB34 + k, 16, 16⟩
def F.MEM_KCV_KCV (k : Nat) : Fld := ⟨0xB34 + k, 15, 0⟩

end Sys2Proof.Machine
end

