-- ==== Sys2Proof/Machine/RegTable.lean ====
section
/-! DEFINITION. The register map of spec/ as data: one row per register of tables MAP-2 to MAP-13 (18 R417), its fields with the access
class of SCO-4, the reset columns POR, PIN and SEC and the K, T and S marks of the chapter's own field table. -/

namespace Sys2Proof.Machine

/-- The Write / Read column of the map (18 R414). `own` is "n", `ownS0` "n, S0", `lane` and `desc` the grantee, `perField` a register
whose fields name their own writers (18 R449). -/
inductive Who where
  | all | s0 | own | ownS0 | gp | lane | laneS0 | desc | descS0 | lockHolder | hostOnly | perField | nobody
  deriving DecidableEq, Repr

/-- The access classes of Table SCO-4 (00 R12). -/
inductive Access where
  | ro | rw | wo | w1c
  deriving DecidableEq, Repr

/-- What the PIN column of a field table says: keep, as POR, or a value of its own. -/
inductive PinRule where
  | keep | asPor | val (v : Nat)
  deriving DecidableEq, Repr

/-- Whether a field is held in three copies (13 R312); `sector0` only in sector 0's instance (Table MAP-15). -/
inductive Tripled where
  | no | yes | sector0
  deriving DecidableEq, Repr

/-- One row of a field table. `por0` is the POR value in instance 0, `por` in the others; `thermos` marks the fields that only a lost
Thermos resets (the double dagger of 07, 12 R279). -/
structure FieldRow where
  hi : Nat
  lo : Nat
  acc : Access
  keyed : Bool
  slow : Bool
  tripled : Tripled
  por0 : Nat
  por : Nat
  pin : PinRule
  sec : Option Nat
  thermos : Bool
  deriving DecidableEq, Repr

/-- One register of the map. Instance [i, j, ...] lies at base + i * stride + j * stride + ...; `first` is the lowest i. -/
structure RegRow where
  base : Nat
  dims : List (Nat × Nat)
  first : Nat
  writer : Who
  reader : Who
  fields : List FieldRow
  deriving DecidableEq, Repr

/-- Shorthand for one field row, its columns in the tables' order. -/
def fld (hi lo : Nat) (acc : Access) (k s : Bool) (t : Tripled) (por0 por : Nat) (pin : PinRule) (sec : Option Nat)
    (thermos : Bool) : FieldRow :=
  ⟨hi, lo, acc, k, s, t, por0, por, pin, sec, thermos⟩

/-- Registers of the SYS block, 000h to 03Fh. -/
def sysRows0 : List RegRow := [
  -- SYS_ID: PART (18 MAP-3)
  ⟨0x000, [], 0, .nobody, .all,
    [fld 17 0 .ro false false .no 0x24180 0x24180 .asPor (some 0x24180) false]⟩,
  -- SYS_REV: REV (18 MAP-3)
  ⟨0x001, [], 0, .nobody, .all,
    [fld 7 0 .ro false false .no 0x01 0x01 .asPor (some 0x01) false]⟩,
  -- PIN_GP: EDGE PULL OUTV IN PARK FUNC (17 PIN-6)
  ⟨0x004, [(8, 1)], 0, .gp, .all,
    [fld 17 16 .rw false false .no 0 0 (.val 0) none false,
     fld 15 14 .rw false false .no 1 1 (.val 3) none false,
     fld 13 13 .rw false false .no 0 0 (.val 0) none false,
     fld 12 12 .ro false false .no 0 0 .keep none false,
     fld 11 11 .ro false false .no 0 0 (.val 0) none false,
     fld 1 0 .rw false false .no 0 0 (.val 0) none false]⟩,
  -- PIN_CFG: REFOE WEDGE WPULL AMSEL (17 PIN-7)
  ⟨0x00C, [], 0, .s0, .all,
    [fld 17 17 .rw true false .no 1 1 .keep none false,
     fld 16 15 .rw true false .no 0 0 .keep none false,
     fld 14 14 .rw true false .no 1 1 .keep none false,
     fld 13 8 .rw true false .no 0 0 (.val 0) none false]⟩,
  -- PIN_STAT: BOOTL WAKEL GPL (17 PIN-7)
  ⟨0x00D, [], 0, .nobody, .all,
    [fld 9 9 .ro false true .no 0 0 .keep none false,
     fld 8 8 .ro false true .no 0 0 .keep none false,
     fld 7 0 .ro false true .no 0 0 .keep none false]⟩,
  -- SYS_KEY: ARMED (13 HST-6)
  ⟨0x010, [], 0, .all, .all,
    [fld 0 0 .ro false false .yes 0 0 (.val 0) none false]⟩,
  -- SYS_KEYERR: CLR KDN KERR (13 HST-6)
  ⟨0x011, [], 0, .s0, .all,
    [fld 16 16 .wo false false .no 0 0 (.val 0) none false,
     fld 15 8 .ro false false .no 0 0 (.val 0) none false,
     fld 7 0 .ro false false .no 0 0 (.val 0) none false]⟩,
  -- SYS_TMRFIX: CLR COUNT (13 HST-6)
  ⟨0x012, [], 0, .s0, .all,
    [fld 16 16 .wo false false .no 0 0 (.val 0) none false,
     fld 15 0 .ro false true .no 0 0 (.val 0) none false]⟩,
  -- SYS_RST: SOFT LRST (16 RST-8)
  ⟨0x018, [], 0, .perField, .all,
    [fld 8 8 .wo true false .no 0 0 (.val 0) none false,
     fld 3 0 .wo false false .no 0 0 (.val 0) (some 0) false]⟩,
  -- SYS_RSTCAUSE: DCNT PREV CAUSE (16 RST-8)
  ⟨0x019, [], 0, .nobody, .all,
    [fld 17 12 .ro false true .no 0 0 .keep none true,
     fld 11 6 .ro false true .no 0 0 .keep none true,
     fld 5 0 .ro false true .no 0 0 .keep none true]⟩,
  -- SYS_RSTTH: TICK (16 RST-9)
  ⟨0x01A, [], 0, .nobody, .all,
    [fld 17 0 .ro false true .no 0 0 .keep none true]⟩,
  -- SYS_RSTTL: TICK (16 RST-9)
  ⟨0x01B, [], 0, .nobody, .all,
    [fld 17 0 .ro false true .no 0 0 .keep none true]⟩]

/-- Registers of the SYS block, 000h to 03Fh. -/
def sysRows1 : List RegRow := [
  -- SYS_BOOT: BOOTPIN HOSTBOOT SLOT FALLBK FCODE BOOTF BOOTX (16 RST-9)
  ⟨0x01C, [], 0, .nobody, .s0,
    [fld 17 17 .ro false false .no 0 0 (.val 0) none false,
     fld 16 16 .ro false false .no 0 0 (.val 0) none false,
     fld 15 14 .ro false false .no 0 0 (.val 0) none false,
     fld 13 13 .ro false false .no 0 0 (.val 0) none false,
     fld 12 5 .ro false false .no 0 0 (.val 0) none false,
     fld 4 4 .ro false false .no 0 0 (.val 0) none false,
     fld 3 3 .ro false false .no 0 0 (.val 0) none false]⟩,
  -- SYS_BLOAD: GO SLOT SECT BUSY (16 RST-9)
  ⟨0x01D, [], 0, .s0, .s0,
    [fld 17 17 .wo true false .no 0 0 (.val 0) none false,
     fld 16 15 .wo true false .no 0 0 (.val 0) none false,
     fld 14 13 .wo true false .no 0 0 (.val 0) none false,
     fld 12 12 .ro false false .no 0 0 (.val 0) none false]⟩]

/-- Registers of the PWR block, 040h to 0BFh. -/
def pwrRows0 : List RegRow := [
  -- PWR_REQA: HB IMEM CORE (06 PWR-9)
  ⟨0x040, [(4, 4)], 0, .own, .ownS0,
    [fld 17 4 .rw false false .yes 0x2AAA 0 .asPor none false,
     fld 3 2 .rw false false .yes 2 0 .asPor none false,
     fld 1 0 .rw false false .yes 2 0 .asPor none false]⟩,
  -- PWR_REQB: FSW AOUT TIA EXC LANE HB7 (06 PWR-9)
  ⟨0x041, [(4, 4)], 0, .own, .ownS0,
    [fld 17 16 .rw false false .yes 0 0 (.val 0) none false,
     fld 15 14 .rw false false .yes 0 0 (.val 0) none false,
     fld 13 12 .rw false false .yes 0 0 (.val 0) none false,
     fld 11 10 .rw false false .yes 0 0 (.val 0) none false,
     fld 9 2 .rw false false .yes 0 0 (.val 0) none false,
     fld 1 0 .rw false false .yes 2 0 .asPor none false]⟩,
  -- PWR_REQC: HOST FLASH TWIN NET (06 PWR-9)
  ⟨0x042, [(4, 4)], 0, .own, .ownS0,
    [fld 7 6 .rw false false .yes 0 0 (.val 0) none false,
     fld 5 4 .rw false false .yes 0 0 (.val 0) none false,
     fld 3 2 .rw false false .yes 0 0 (.val 0) none false,
     fld 1 0 .rw false false .yes 0 0 (.val 0) none false]⟩,
  -- PWR_STATA: STAT (06 PWR-10)
  ⟨0x050, [], 0, .nobody, .all,
    [fld 17 0 .ro false true .no 0x15555 0x15555 .keep none false]⟩,
  -- PWR_STATB: STAT (06 PWR-10)
  ⟨0x051, [], 0, .nobody, .all,
    [fld 17 0 .ro false true .no 0x15555 0x15555 .keep none false]⟩,
  -- PWR_STATC: STAT (06 PWR-10)
  ⟨0x052, [], 0, .nobody, .all,
    [fld 7 0 .ro false true .no 0x55 0x55 .keep none false]⟩,
  -- PWR_PENDA: PEND (06 PWR-11)
  ⟨0x053, [], 0, .nobody, .all,
    [fld 17 0 .ro false true .no 0 0 (.val 0) none false]⟩,
  -- PWR_PENDB: PEND (06 PWR-11)
  ⟨0x054, [], 0, .nobody, .all,
    [fld 3 0 .ro false true .no 0 0 (.val 0) none false]⟩,
  -- PWR_REPLACED: CLR COUNT (06 PWR-11)
  ⟨0x055, [], 0, .s0, .all,
    [fld 16 16 .wo false true .no 0 0 (.val 0) none false,
     fld 15 0 .ro false true .no 0 0 (.val 0) none false]⟩,
  -- PWR_WAKE_STATUS: BUSY KIND LOGRDY MEMRDY PLLRDY OSCRDY REGRDY (06 PWR-12)
  ⟨0x056, [], 0, .nobody, .all,
    [fld 8 8 .ro false true .no 0 0 (.val 0) none false,
     fld 7 5 .ro false true .no 0 0 (.val 0) none false,
     fld 4 4 .ro false true .no 0 0 (.val 0) none false,
     fld 3 3 .ro false true .no 0 0 (.val 0) none false,
     fld 2 2 .ro false true .no 0 0 (.val 0) none false,
     fld 1 1 .ro false true .no 0 0 (.val 0) none false,
     fld 0 0 .ro false true .no 0 0 (.val 0) none false]⟩,
  -- PWR_WAKEEN: HOLD EN (06 PWR-13)
  ⟨0x057, [], 0, .s0, .all,
    [fld 11 7 .rw false true .no 4 4 (.val 4) none false,
     fld 6 0 .rw false true .no 0x7F 0x7F (.val 0x7F) none false]⟩,
  -- PWR_WAKESRC: SET CODE (06 PWR-13)
  ⟨0x058, [], 0, .nobody, .all,
    [fld 16 8 .ro false true .no 0 0 (.val 0) none false,
     fld 3 0 .ro false true .no 0 0 (.val 0) none false]⟩]

/-- Registers of the PWR block, 040h to 0BFh. -/
def pwrRows1 : List RegRow := [
  -- PWR_WAKETL: TICK (06 PWR-13)
  ⟨0x059, [], 0, .nobody, .all,
    [fld 17 0 .ro false true .no 0 0 (.val 0) none false]⟩,
  -- PWR_WAKETH: TICK (06 PWR-13)
  ⟨0x05A, [], 0, .nobody, .all,
    [fld 17 0 .ro false true .no 0 0 (.val 0) none false]⟩,
  -- PWR_LRET: TICKS (06 PWR-13)
  ⟨0x05B, [], 0, .s0, .all,
    [fld 7 0 .rw false true .no 2 2 (.val 2) none false]⟩,
  -- PWR_REGCTL: LOADEST MODE IDLE (06 PWR-14)
  ⟨0x060, [], 0, .s0, .all,
    [fld 13 6 .ro false true .no 0 0 (.val 0) none false,
     fld 2 2 .ro false true .no 0 0 (.val 0) none false,
     fld 1 0 .rw true true .yes 0 0 (.val 0) none false]⟩,
  -- CLK_CTL: SCSEL XKEEP (06 PWR-15)
  ⟨0x070, [], 0, .s0, .all,
    [fld 2 1 .rw true true .no 0 0 (.val 0) none false,
     fld 0 0 .rw true true .no 1 1 (.val 1) none false]⟩,
  -- CLK_MDIV: MDPEND MDIV (06 PWR-15)
  ⟨0x071, [], 0, .perField, .all,
    [fld 15 12 .ro false false .no 0 0 (.val 0) none false,
     fld 11 0 .rw false false .no 0x492 0x492 (.val 0x492) none false]⟩,
  -- CLK_OUT: SRC (06 PWR-15)
  ⟨0x072, [], 0, .s0, .all,
    [fld 2 0 .rw true false .no 0 0 (.val 0) none false]⟩,
  -- CLK_STAT: OSCSKIP OSCFAIL SCFAIL SCSRC PLLON (06 PWR-15)
  ⟨0x073, [], 0, .s0, .all,
    [fld 17 12 .ro false true .no 0 0 (.val 0) none false,
     fld 3 3 .w1c false true .no 0 0 (.val 0) none false,
     fld 2 2 .w1c false true .no 0 0 (.val 0) none false,
     fld 1 1 .ro false true .no 0 0 (.val 0) none false,
     fld 0 0 .ro false true .no 0 0 (.val 0) none false]⟩,
  -- CLK_TICKL: TICK (06 PWR-16)
  ⟨0x074, [], 0, .nobody, .all,
    [fld 17 0 .ro false true .no 0 0 .keep none false]⟩,
  -- CLK_TICKH: TICK (06 PWR-16)
  ⟨0x075, [], 0, .nobody, .all,
    [fld 17 0 .ro false true .no 0 0 .keep none false]⟩]

/-- Registers of the LDG block, 0C0h to 0FFh. -/
def ldgRows0 : List RegRow := [
  -- LDG_CFG: RSH ZEN (07 NRG-4)
  ⟨0x0C0, [], 0, .s0, .all,
    [fld 17 8 .rw true true .no 0x1F4 0x1F4 .keep none false,
     fld 7 7 .rw true true .no 1 1 .keep none false]⟩,
  -- LDG_TOL: TOL (07 NRG-4)
  ⟨0x0C1, [], 0, .s0, .all,
    [fld 9 0 .rw true true .no 0x7D 0x7D (.val 0x7D) none false]⟩,
  -- LDG_ETOTH: ETOT (07 NRG-5)
  ⟨0x0C2, [], 0, .nobody, .all,
    [fld 17 0 .ro false true .no 0 0 .keep none true]⟩,
  -- LDG_ETOTL: ETOT (07 NRG-5)
  ⟨0x0C3, [], 0, .nobody, .all,
    [fld 17 0 .ro false true .no 0 0 .keep none true]⟩,
  -- LDG_STOREH: STORE (07 NRG-5)
  ⟨0x0C4, [], 0, .s0, .all,
    [fld 17 0 .rw false true .no 0 0 .keep none true]⟩,
  -- LDG_STOREL: STORE (07 NRG-5)
  ⟨0x0C5, [], 0, .s0, .all,
    [fld 17 0 .rw false true .no 0 0 .keep none true]⟩,
  -- LDG_TTH: TTH (07 NRG-5)
  ⟨0x0C6, [(3, 1)], 0, .s0, .all,
    [fld 17 0 .rw true true .no 0 0 .keep none false]⟩,
  -- LDG_THYS: HYS (07 NRG-5)
  ⟨0x0C9, [], 0, .s0, .all,
    [fld 17 0 .rw true true .no 0 0 .keep none false]⟩,
  -- LDG_TMAX: STMAX TMAX (07 NRG-6)
  ⟨0x0CA, [], 0, .s0, .all,
    [fld 15 8 .rw true true .no 0 0 .keep none false,
     fld 7 0 .rw true true .no 0xFF 0xFF (.val 0xFF) none false]⟩,
  -- LDG_STAT: TIER TORD OVR STALE L (07 NRG-6)
  ⟨0x0CB, [], 0, .s0, .all,
    [fld 17 10 .ro false true .no 0 0 (.val 0) none false,
     fld 5 5 .ro false true .no 0 0 (.val 0) none false,
     fld 4 4 .w1c false true .no 0 0 (.val 0) none false,
     fld 3 3 .ro false true .no 0 0 .keep none false,
     fld 1 0 .ro false true .no 0 0 .keep none true]⟩,
  -- LDG_EH: E (07 NRG-5)
  ⟨0x0D0, [(4, 2)], 0, .nobody, .all,
    [fld 17 0 .ro false true .no 0 0 (.val 0) none false]⟩,
  -- LDG_EL: E (07 NRG-5)
  ⟨0x0D1, [(4, 2)], 0, .nobody, .all,
    [fld 17 0 .ro false true .no 0 0 (.val 0) none false]⟩]

/-- Registers of the LDG block, 0C0h to 0FFh. -/
def ldgRows1 : List RegRow := [
  -- LDG_REC: DIV LOWCNT VOID CLR (07 NRG-7)
  ⟨0x0D8, [(4, 1)], 0, .s0, .all,
    [fld 17 7 .ro false true .no 0 0 (.val 0) none false,
     fld 6 3 .ro false true .no 0 0 (.val 0) none false,
     fld 2 2 .ro false true .no 0 0 (.val 0) none false,
     fld 1 1 .wo false true .no 0 0 (.val 0) none false]⟩,
  -- LDG_VAVG: VAVG (07 NRG-5)
  ⟨0x0DC, [(4, 1)], 0, .nobody, .all,
    [fld 12 0 .ro false true .no 0 0 (.val 0) none false]⟩,
  -- THERM_STAT: LEVEL TEMP (07 NRG-8)
  ⟨0x0E0, [], 0, .s0, .all,
    [fld 13 12 .ro false true .yes 0 0 .keep none false,
     fld 11 0 .ro false true .no 0 0 .keep none false]⟩,
  -- THERM_CHAT: CHAT CRITCNT DWELL CLR (07 NRG-8)
  ⟨0x0E1, [], 0, .s0, .all,
    [fld 17 10 .ro false true .no 0 0 .keep none false,
     fld 9 6 .ro false true .no 0 0 .keep none true,
     fld 5 3 .ro false true .no 0 0 .keep none false,
     fld 0 0 .wo false true .no 0 0 (.val 0) none false]⟩,
  -- THERM_SKIP: SKIP (07 NRG-8)
  ⟨0x0E2, [], 0, .s0, .all,
    [fld 7 0 .ro false true .no 0 0 (.val 0) none false]⟩]

/-- Registers of the SCH block, 100h to 1FFh. -/
def schRows0 : List RegRow := [
  -- SCH_FRAME: PERIOD (01 FRM-5)
  ⟨0x100, [], 0, .s0, .all,
    [fld 17 0 .rw true true .no 0x8000 0x8000 (.val 0x8000) none false]⟩,
  -- SCH_SYNC: PREJ STRAY MISS MODE (01 FRM-6)
  ⟨0x101, [], 0, .s0, .all,
    [fld 17 17 .w1c false false .no 0 0 (.val 0) none false,
     fld 16 10 .ro false true .no 0 0 (.val 0) none false,
     fld 9 2 .ro false true .no 0 0 (.val 0) none false,
     fld 1 0 .rw true true .no 0 0 (.val 0) none false]⟩,
  -- SCH_WLEAD: COLD WARM HOT (01 FRM-7)
  ⟨0x102, [], 0, .s0, .all,
    [fld 17 10 .rw false true .no 0x30 0x30 (.val 0x30) none false,
     fld 9 5 .rw false true .no 2 2 (.val 2) none false,
     fld 4 0 .rw false true .no 1 1 (.val 1) none false]⟩,
  -- SCH_SKIP: SKIP (01 FRM-8)
  ⟨0x104, [(4, 1)], 0, .own, .ownS0,
    [fld 11 0 .rw false true .no 0 0 (.val 0) (some 0) false]⟩,
  -- SCH_LATE: CLR LATE3 LATE2 LATE1 LATE0 (01 FRM-9)
  ⟨0x108, [], 0, .s0, .all,
    [fld 16 16 .wo false false .no 0 0 (.val 0) none false,
     fld 15 12 .ro false false .no 0 0 (.val 0) (some 0) false,
     fld 11 8 .ro false false .no 0 0 (.val 0) (some 0) false,
     fld 7 4 .ro false false .no 0 0 (.val 0) (some 0) false,
     fld 3 0 .ro false false .no 0 0 (.val 0) (some 0) false]⟩,
  -- SCH_CTV: CTV (02 CON-12)
  ⟨0x110, [], 0, .nobody, .all,
    [fld 7 0 .ro false false .no 1 1 (.val 1) (some 1) false]⟩,
  -- SCH_BACT: T0N ESC ACT (02 CON-13)
  ⟨0x111, [], 0, .s0, .all,
    [fld 17 12 .rw true false .no 0x10 0x10 (.val 0x10) none false,
     fld 11 8 .rw true false .no 0 0 (.val 0) none false,
     fld 7 0 .rw true false .no 0x54 0x54 (.val 0x54) none false]⟩,
  -- SCH_OVGR: GRACE (02 CON-14)
  ⟨0x112, [], 0, .s0, .all,
    [fld 11 0 .rw true false .no 0x200 0x200 (.val 0x200) none false]⟩,
  -- SCH_LDST: SECT CODE ICTV (02 CON-15)
  ⟨0x113, [], 0, .nobody, .all,
    [fld 17 16 .ro false false .no 0 0 .keep none false,
     fld 15 8 .ro false false .no 0 0 .keep none false,
     fld 7 0 .ro false false .no 0 0 .keep none false]⟩,
  -- SCH_BST: BCNT CAPLEFT CAP UNDER ENERGY LANEQ EMPTYPOP POSTQ OVERRUN (02 CON-16)
  ⟨0x114, [(4, 1)], 0, .own, .ownS0,
    [fld 17 13 .ro false false .no 0 0 (.val 0) none false,
     fld 12 7 .ro false false .no 0 0 (.val 0) (some 0) false,
     fld 6 6 .ro false false .no 0 0 (.val 0) (some 0) false,
     fld 5 5 .w1c false false .no 0 0 (.val 0) none false,
     fld 4 4 .w1c false false .no 0 0 (.val 0) none false,
     fld 3 3 .w1c false false .no 0 0 (.val 0) none false,
     fld 2 2 .w1c false false .no 0 0 (.val 0) none false,
     fld 1 1 .w1c false false .no 0 0 (.val 0) none false,
     fld 0 0 .w1c false false .no 0 0 (.val 0) none false]⟩,
  -- SCH_SLOT: USED (02 CON-17)
  ⟨0x118, [(4, 1)], 0, .nobody, .ownS0,
    [fld 17 0 .ro false false .no 0 0 (.val 0) (some 0) false]⟩,
  -- SEQ_FLAG: WINCNT SLOTX RSO RSU IFLT IMSEC WIN AOV SAT (03 IZN-9)
  ⟨0x11C, [(4, 1)], 0, .own, .ownS0,
    [fld 17 10 .ro false false .no 0 0 (.val 0) (some 0) false,
     fld 8 8 .w1c false false .no 0 0 (.val 0) (some 0) false,
     fld 7 7 .w1c false false .no 0 0 (.val 0) (some 0) false,
     fld 6 6 .w1c false false .no 0 0 (.val 0) (some 0) false,
     fld 5 5 .w1c false false .no 0 0 (.val 0) (some 0) false,
     fld 4 4 .w1c false false .no 0 0 (.val 0) (some 0) false,
     fld 3 3 .w1c false false .no 0 0 (.val 0) (some 0) false,
     fld 1 1 .w1c false false .no 0 0 (.val 0) (some 0) false,
     fld 0 0 .w1c false false .no 0 0 (.val 0) (some 0) false]⟩]

/-- Registers of the SCH block, 100h to 1FFh. -/
def schRows1 : List RegRow := [
  -- SEQ_IECC: SBE DED ADDR (03 IZN-10)
  ⟨0x120, [], 0, .s0, .s0,
    [fld 17 14 .ro false false .no 0 0 (.val 0) none false,
     fld 13 13 .w1c false false .no 0 0 (.val 0) none false,
     fld 12 0 .ro false false .no 0 0 (.val 0) none false]⟩,
  -- SEQ_XST: XCNT CRVX ARG NOGR REGDN (04 INS-11)
  ⟨0x124, [(4, 1)], 0, .own, .ownS0,
    [fld 17 10 .ro false false .no 0 0 (.val 0) (some 0) false,
     fld 3 3 .w1c false false .no 0 0 (.val 0) (some 0) false,
     fld 2 2 .w1c false false .no 0 0 (.val 0) (some 0) false,
     fld 1 1 .w1c false false .no 0 0 (.val 0) (some 0) false,
     fld 0 0 .w1c false false .no 0 0 (.val 0) (some 0) false]⟩]

/-- Registers of the SEC block, 200h to 27Fh. -/
def secRows0 : List RegRow := [
  -- SEC_CTL: SPEND IMG STATE CMD (05 SEC-7)
  ⟨0x200, [(4, 32)], 0, .s0, .ownS0,
    [fld 5 5 .ro false false .no 0 0 (.val 0) (some 0) false,
     fld 4 4 .ro false false .no 0 0 (.val 0) none false,
     fld 3 2 .ro false false .no 0 0 (.val 0) none false,
     fld 1 0 .wo true false .no 0 0 (.val 0) (some 0) false]⟩,
  -- SEC_IMEM: IEN ILEN IBASE (05 SEC-8)
  ⟨0x201, [(4, 32)], 0, .s0, .ownS0,
    [fld 10 10 .rw true false .no 1 0 .asPor none false,
     fld 9 5 .rw true false .no 0x1F 0 .asPor none false,
     fld 4 0 .rw true false .no 0 0 (.val 0) none false]⟩,
  -- SEC_WIN: GLEN GBASE (05 SEC-9)
  ⟨0x202, [(4, 32)], 0, .s0, .ownS0,
    [fld 12 6 .rw true false .no 0x40 0 .asPor none false,
     fld 5 0 .rw true false .no 0 0 (.val 0) none false]⟩,
  -- SEC_GRANT: FSW AOUT CAL TIA VEXC IEXC LANE (05 SEC-10)
  ⟨0x203, [(4, 32)], 0, .s0, .ownS0,
    [fld 17 14 .rw true false .no 0xF 0 .asPor none false,
     fld 13 12 .rw true false .no 3 0 .asPor none false,
     fld 11 11 .rw true false .no 1 0 .asPor none false,
     fld 10 9 .rw true false .no 3 0 .asPor none false,
     fld 8 8 .rw true false .no 1 0 .asPor none false,
     fld 7 4 .rw true false .no 0xF 0 .asPor none false,
     fld 3 0 .rw true false .no 0xF 0 .asPor none false]⟩,
  -- SEC_GRANT2: GP WAKE TWIN NET UTBL FLASH (05 SEC-11)
  ⟨0x204, [(4, 32)], 0, .s0, .ownS0,
    [fld 12 5 .rw true false .no 0xFF 0 .asPor none false,
     fld 4 4 .rw true false .no 1 0 .asPor none false,
     fld 3 3 .rw true false .no 1 0 .asPor none false,
     fld 2 2 .rw true false .no 1 0 .asPor none false,
     fld 1 1 .rw true false .no 1 0 .asPor none false,
     fld 0 0 .rw true false .no 1 0 .asPor none false]⟩,
  -- SEC_DESC: DLEN DBASE (05 SEC-12)
  ⟨0x205, [(4, 32)], 0, .s0, .ownS0,
    [fld 12 6 .rw true false .no 0x40 0 .asPor none false,
     fld 5 0 .rw true false .no 0 0 (.val 0) none false]⟩,
  -- SEC_QOS: HBW NTX SHARE (05 SEC-13)
  ⟨0x206, [(4, 32)], 0, .s0, .ownS0,
    [fld 17 8 .rw true false .sector0 0 0 (.val 0) none false,
     fld 7 4 .rw true false .sector0 8 2 .asPor none false,
     fld 3 0 .rw true false .sector0 4 4 (.val 4) none false]⟩,
  -- SEC_EQ: EQ (05 SEC-13)
  ⟨0x207, [(4, 32)], 0, .s0, .ownS0,
    [fld 17 0 .rw true false .sector0 0 0 (.val 0) none false]⟩,
  -- SEC_LTQ: LTQ (05 SEC-13)
  ⟨0x208, [(4, 32)], 0, .s0, .ownS0,
    [fld 9 0 .rw true false .sector0 0 0 (.val 0) none false]⟩,
  -- SEC_LTUSED: USED (05 SEC-14)
  ⟨0x209, [(4, 32)], 0, .nobody, .ownS0,
    [fld 17 0 .ro false true .no 0 0 (.val 0) (some 0) false]⟩,
  -- SEC_WDT: WARN LIM (05 SEC-15)
  ⟨0x20A, [(4, 32)], 0, .s0, .ownS0,
    [fld 17 12 .rw true true .no 0 0 (.val 0) none false,
     fld 11 0 .rw true true .no 0 0 (.val 0) none false]⟩,
  -- SEC_WDK: KICK (05 SEC-15)
  ⟨0x20B, [(4, 32)], 0, .own, .nobody,
    [fld 17 0 .wo false true .no 0 0 (.val 0) (some 0) false]⟩]

/-- Registers of the SEC block, 200h to 27Fh. -/
def secRows1 : List RegRow := [
  -- SEC_EVL: EV (05 SEC-16)
  ⟨0x20C, [(4, 32)], 0, .nobody, .ownS0,
    [fld 15 0 .ro false false .no 0 0 (.val 0) (some 0) false]⟩,
  -- SEC_EVH: EV (05 SEC-16)
  ⟨0x20D, [(4, 32)], 0, .nobody, .ownS0,
    [fld 15 0 .ro false false .no 0 0 (.val 0) (some 0) false]⟩,
  -- SEC_SUPV: SET (05 SEC-16)
  ⟨0x20E, [(4, 32)], 1, .s0, .nobody,
    [fld 0 0 .wo false false .no 0 0 (.val 0) (some 0) false]⟩,
  -- SEC_DBELL: VAL (05 SEC-16)
  ⟨0x20F, [(4, 32)], 0, .s0, .ownS0,
    [fld 17 0 .rw false false .no 0 0 (.val 0) (some 0) false]⟩,
  -- SEC_VML: MASK (05 SEC-17)
  ⟨0x210, [(4, 32), (4, 2)], 0, .ownS0, .ownS0,
    [fld 15 0 .rw false false .no 0 0 (.val 0) (some 0) false]⟩,
  -- SEC_VMH: MASK (05 SEC-17)
  ⟨0x211, [(4, 32), (4, 2)], 0, .ownS0, .ownS0,
    [fld 15 0 .rw false false .no 0 0 (.val 0) (some 0) false]⟩,
  -- SEC_VRT: ACT POL GP GPEN TWIN NET HIRQ (05 SEC-18)
  ⟨0x218, [(4, 32), (4, 1)], 0, .s0, .ownS0,
    [fld 8 8 .ro false false .no 0 0 (.val 0) (some 0) false,
     fld 7 7 .rw true false .no 0 0 (.val 0) none false,
     fld 6 4 .rw true false .no 0 0 (.val 0) none false,
     fld 3 3 .rw true false .no 0 0 (.val 0) none false,
     fld 2 2 .rw true false .no 0 0 (.val 0) none false,
     fld 1 1 .rw true false .no 0 0 (.val 0) none false,
     fld 0 0 .rw true false .no 0 0 (.val 0) none false]⟩,
  -- SEC_STAT: RCNT CAUSE WKBAD GREJ CREJ LTX VNDROP (05 SEC-19)
  ⟨0x21C, [(4, 32)], 0, .s0, .ownS0,
    [fld 17 14 .ro false false .no 0 0 (.val 0) none false,
     fld 13 10 .ro false false .no 0 0 (.val 0) none false,
     fld 9 6 .ro false false .no 0 0 (.val 0) none false,
     fld 5 5 .w1c false false .no 0 0 (.val 0) none false,
     fld 4 4 .w1c false false .no 0 0 (.val 0) none false,
     fld 3 3 .w1c false false .no 0 0 (.val 0) none false,
     fld 2 0 .ro false false .no 0 0 (.val 0) none false]⟩,
  -- SEC_HATT: RESTRICT SECT (05 SEC-20)
  ⟨0x21D, [], 0, .s0, .all,
    [fld 2 2 .rw true false .no 0 0 (.val 0) none false,
     fld 1 0 .rw true false .no 0 0 (.val 0) none false]⟩]

/-- Registers of the LOCK block, 280h to 2FFh. -/
def lockRows : List RegRow := [
  -- LOCK_ST: HTIME REVOKED WAIT ABAND HELD HOLDER (05 SEC-21)
  ⟨0x280, [(16, 1)], 0, .nobody, .all,
    [fld 17 9 .ro false true .no 0 0 (.val 0) none false,
     fld 8 8 .ro false false .no 0 0 (.val 0) none false,
     fld 7 4 .ro false false .no 0 0 (.val 0) none false,
     fld 3 3 .ro false false .no 0 0 (.val 0) none false,
     fld 2 2 .ro false false .no 0 0 (.val 0) none false,
     fld 1 0 .ro false false .no 0 0 (.val 0) none false]⟩,
  -- LOCK_PRI: PRI (05 SEC-22)
  ⟨0x290, [], 0, .s0, .all,
    [fld 7 0 .rw true false .no 0x55 0x55 (.val 0x55) none false]⟩,
  -- LOCK_HOLDMAX: HOLDMAX (05 SEC-22)
  ⟨0x291, [], 0, .s0, .all,
    [fld 11 0 .rw true false .no 0 0 (.val 0) none false]⟩,
  -- LOCK_NH: CLR NH (05 SEC-22)
  ⟨0x292, [], 0, .s0, .all,
    [fld 16 16 .wo false false .no 0 0 (.val 0) none false,
     fld 15 0 .ro false false .no 0 0 (.val 0) none false]⟩]

/-- Registers of the LANE block, 300h to 3FFh. -/
def laneRows : List RegRow := [
  -- LANE_STATUS: MODE FCNT BANK DESC OVF DONE (09 LAN-7)
  ⟨0x300, [(4, 64)], 0, .lane, .laneS0,
    [fld 17 14 .ro false false .no 0 0 (.val 0) (some 1) false,
     fld 13 9 .ro false false .no 0 0 (.val 0) (some 0) false,
     fld 8 8 .ro false false .no 0 0 (.val 0) none false,
     fld 7 2 .ro false false .no 0 0 (.val 0) none false,
     fld 1 1 .w1c false false .no 0 0 (.val 0) (some 0) false,
     fld 0 0 .w1c false false .no 0 0 (.val 0) (some 0) false]⟩,
  -- LANE_FLAG: BADM LTXD TRGX BKWX CLIP SHM SHTO (09 LAN-7)
  ⟨0x301, [(4, 64)], 0, .lane, .laneS0,
    [fld 6 6 .w1c false false .no 0 0 (.val 0) (some 0) false,
     fld 5 5 .w1c false false .no 0 0 (.val 0) (some 0) false,
     fld 4 4 .w1c false false .no 0 0 (.val 0) (some 0) false,
     fld 3 3 .w1c false false .no 0 0 (.val 0) (some 0) false,
     fld 2 2 .w1c false false .no 0 0 (.val 0) (some 0) false,
     fld 1 1 .w1c false false .no 0 0 (.val 0) (some 0) false,
     fld 0 0 .w1c false false .no 0 0 (.val 0) (some 0) false]⟩,
  -- LANE_CTL: TRIG STR CNT (09 LAN-8)
  ⟨0x302, [(4, 64)], 0, .lane, .laneS0,
    [fld 17 16 .rw false false .no 0 0 (.val 0) (some 0) false,
     fld 15 15 .rw false false .no 0 0 (.val 0) (some 0) false,
     fld 11 0 .rw false false .no 0 0 (.val 0) (some 0) false]⟩,
  -- LANE_SCAN: LEN SPE (09 LAN-8)
  ⟨0x303, [(4, 64)], 0, .lane, .laneS0,
    [fld 11 8 .ro false false .no 0 0 (.val 0) (some 0) false,
     fld 7 0 .rw false false .no 1 1 (.val 1) (some 1) false]⟩,
  -- LANE_LIST: ENTRY (09 LAN-8)
  ⟨0x304, [(4, 64), (6, 1)], 0, .nobody, .laneS0,
    [fld 17 0 .ro false false .no 0 0 (.val 0) (some 0) false]⟩,
  -- LANE_SHTOL: SHTOL (09 LAN-9)
  ⟨0x30A, [(4, 64)], 0, .lane, .laneS0,
    [fld 17 0 .rw false false .no 0 0 (.val 0) none false]⟩,
  -- LANE_SHST: SHWAIT MISCNT TMOCNT (09 LAN-9)
  ⟨0x30B, [(4, 64)], 0, .lane, .laneS0,
    [fld 17 12 .rw false false .no 0x10 0x10 (.val 0x10) none false,
     fld 11 6 .ro false false .no 0 0 (.val 0) (some 0) false,
     fld 5 0 .ro false false .no 0 0 (.val 0) (some 0) false]⟩,
  -- LANE_SEQ: SEQ (09 LAN-9)
  ⟨0x30C, [(4, 64)], 0, .nobody, .laneS0,
    [fld 17 0 .ro false false .no 0 0 (.val 0) (some 0) false]⟩,
  -- LANE_DISAGREE: CLR COUNT (09 LAN-9)
  ⟨0x30D, [(4, 64)], 0, .lane, .laneS0,
    [fld 16 16 .wo false false .no 0 0 (.val 0) none false,
     fld 15 0 .ro false false .no 0 0 (.val 0) none false]⟩,
  -- LANE_HCMD: PARAM TRG MODE (09 LAN-9)
  ⟨0x30E, [(4, 64)], 0, .hostOnly, .nobody,
    [fld 17 6 .wo false false .no 0 0 (.val 0) (some 0) false,
     fld 4 4 .wo false false .no 0 0 (.val 0) (some 0) false,
     fld 3 0 .wo false false .no 0 0 (.val 0) (some 0) false]⟩,
  -- LANE_STRST: OVW SCNT (09 LAN-9)
  ⟨0x30F, [(4, 64)], 0, .nobody, .laneS0,
    [fld 14 7 .ro false false .no 0 0 (.val 0) (some 0) false,
     fld 6 0 .ro false false .no 0 0 (.val 0) (some 0) false]⟩]

/-- Registers of the CHAN block, 400h to 57Fh. -/
def chanRows0 : List RegRow := [
  -- DESC_W0: POS NEG AUX (08 AFE-11)
  ⟨0x400, [(64, 4)], 0, .desc, .descS0,
    [fld 17 12 .rw false false .no 0 0 (.val 0) none false,
     fld 11 6 .rw false false .no 0 0 (.val 0) none false,
     fld 5 0 .rw false false .no 0 0 (.val 0) none false]⟩,
  -- DESC_W1: GAIN WIRE REFSEL BO BOCONT FPROF EXCMASK (08 AFE-11)
  ⟨0x401, [(64, 4)], 0, .desc, .descS0,
    [fld 17 15 .rw false false .no 0 0 (.val 0) none false,
     fld 14 12 .rw false false .no 0 0 (.val 0) none false,
     fld 11 10 .rw false false .no 0 0 (.val 0) none false,
     fld 9 8 .rw false false .no 0 0 (.val 0) none false,
     fld 7 7 .rw false false .no 0 0 (.val 0) none false,
     fld 6 4 .rw false false .no 0 0 (.val 0) none false,
     fld 3 0 .rw false false .no 0 0 (.val 0) none false]⟩,
  -- DESC_W2: CURVE EXP THRSET ROT LEAD (08 AFE-11)
  ⟨0x402, [(64, 4)], 0, .desc, .descS0,
    [fld 17 13 .rw false false .no 0 0 (.val 0) none false,
     fld 12 8 .rw false false .no 0 0 (.val 0) none false,
     fld 7 5 .rw false false .no 0 0 (.val 0) none false,
     fld 4 4 .rw false false .no 0 0 (.val 0) none false,
     fld 3 0 .rw false false .no 0 0 (.val 0) none false]⟩,
  -- DESC_W3: CMLO CMHI (08 AFE-11)
  ⟨0x403, [(64, 4)], 0, .desc, .descS0,
    [fld 17 12 .rw false false .no 0 0 (.val 0) none false,
     fld 11 6 .rw false false .no 0 0 (.val 0) none false]⟩,
  -- PROF_W0: CRV SYM MAB CIC4 DCM1 DF (09 LAN-10)
  ⟨0x500, [(8, 8)], 0, .s0, .all,
    [fld 17 17 .rw true false .no 0 0 (.val 0) none false,
     fld 16 16 .rw true false .no 0 0 (.val 0) none false,
     fld 15 15 .rw true false .no 0 0 (.val 0) none false,
     fld 14 14 .rw true false .no 0 0 (.val 0) none false,
     fld 13 4 .rw true false .no 0 0 (.val 0) none false,
     fld 3 2 .rw true false .no 0 0 (.val 0) none false]⟩,
  -- PROF_W1: S1 S2 S3 (09 LAN-10)
  ⟨0x501, [(8, 8)], 0, .s0, .all,
    [fld 17 12 .rw true false .no 0 0 (.val 0) none false,
     fld 11 6 .rw true false .no 0 0 (.val 0) none false,
     fld 5 0 .rw true false .no 0 0 (.val 0) none false]⟩,
  -- PROF_W2: NTAPS (09 LAN-10)
  ⟨0x502, [(8, 8)], 0, .s0, .all,
    [fld 17 11 .rw true false .no 0 0 (.val 0) none false]⟩,
  -- PROF_W3: LM1 (09 LAN-10)
  ⟨0x503, [(8, 8)], 0, .s0, .all,
    [fld 11 0 .rw true false .no 0 0 (.val 0) none false]⟩,
  -- PROF_W4: MA_SCALE (09 LAN-10)
  ⟨0x504, [(8, 8)], 0, .s0, .all,
    [fld 17 0 .rw true false .no 0 0 (.val 0) none false]⟩,
  -- THR_W0: HI (09 LAN-11)
  ⟨0x540, [(8, 8)], 0, .s0, .all,
    [fld 17 0 .rw true false .no 0 0 (.val 0) none false]⟩,
  -- THR_W1: LO (09 LAN-11)
  ⟨0x541, [(8, 8)], 0, .s0, .all,
    [fld 17 0 .rw true false .no 0 0 (.val 0) none false]⟩,
  -- THR_W2: HYS (09 LAN-11)
  ⟨0x542, [(8, 8)], 0, .s0, .all,
    [fld 17 0 .rw true false .no 0 0 (.val 0) none false]⟩]

/-- Registers of the CHAN block, 400h to 57Fh. -/
def chanRows1 : List RegRow := [
  -- THR_W3: TAP HIEN LOEN PERSIST (09 LAN-11)
  ⟨0x543, [(8, 8)], 0, .s0, .all,
    [fld 17 16 .rw true false .no 0 0 (.val 0) none false,
     fld 15 15 .rw true false .no 0 0 (.val 0) none false,
     fld 14 14 .rw true false .no 0 0 (.val 0) none false,
     fld 7 0 .rw true false .no 0 0 (.val 0) none false]⟩]

/-- Registers of the AFE block, 580h to 5FFh. -/
def afeRows : List RegRow := [
  -- IEXC_CTL: EN PULSE STEP PIN RTN LIFT PEND (08 AFE-12)
  ⟨0x580, [(4, 1)], 0, .nobody, .all,
    [fld 17 17 .ro false false .no 0 0 (.val 0) none false,
     fld 16 16 .ro false false .no 0 0 (.val 0) none false,
     fld 15 13 .ro false false .no 0 0 (.val 0) none false,
     fld 12 8 .ro false false .no 0 0 (.val 0) none false,
     fld 7 3 .ro false false .no 0x1F 0x1F (.val 0x1F) none false,
     fld 2 2 .ro false false .no 0 0 (.val 0) none false,
     fld 0 0 .ro false false .no 0 0 (.val 0) none false]⟩,
  -- VEXC_CTL: EN LVL SREG PULSE PEND (08 AFE-13)
  ⟨0x584, [], 0, .nobody, .all,
    [fld 17 17 .ro false false .no 0 0 (.val 0) none false,
     fld 16 16 .ro false false .no 0 0 (.val 0) none false,
     fld 15 15 .ro false false .no 0 0 (.val 0) none false,
     fld 14 14 .ro false false .no 0 0 (.val 0) none false,
     fld 0 0 .ro false false .no 0 0 (.val 0) none false]⟩,
  -- TIA_CTL: EN FB LP (08 AFE-13)
  ⟨0x585, [(2, 1)], 0, .nobody, .all,
    [fld 17 17 .ro false false .no 0 0 (.val 0) none false,
     fld 16 15 .ro false false .no 0 0 (.val 0) none false,
     fld 11 10 .ro false false .no 0 0 (.val 0) none false]⟩,
  -- AFE_STAT: CMPX STEERX TIASTX TIASAT VXLIM VLLIM (08 AFE-14)
  ⟨0x587, [], 0, .s0, .all,
    [fld 17 14 .w1c false false .no 0 0 (.val 0) none false,
     fld 13 10 .w1c false false .no 0 0 (.val 0) none false,
     fld 9 8 .w1c false false .no 0 0 (.val 0) none false,
     fld 7 6 .w1c false false .no 0 0 (.val 0) none false,
     fld 5 5 .w1c false false .no 0 0 (.val 0) none false,
     fld 4 4 .w1c false false .no 0 0 (.val 0) none false]⟩,
  -- AFE_CLMP0: AIN (08 AFE-14)
  ⟨0x588, [], 0, .s0, .all,
    [fld 17 0 .w1c false true .no 0 0 .keep none false]⟩,
  -- AFE_CLMP1: AIN LPCL LPLIM (08 AFE-14)
  ⟨0x589, [], 0, .s0, .all,
    [fld 13 8 .w1c false true .no 0 0 .keep none false,
     fld 7 4 .w1c false true .no 0 0 .keep none false,
     fld 3 0 .w1c false true .no 0 0 .keep none false]⟩]

/-- Registers of the CAL block, 600h to 67Fh. -/
def calRows : List RegRow := [
  -- CRV_PA: PTR (10 CAL-10)
  ⟨0x600, [(4, 1)], 0, .own, .ownS0,
    [fld 11 0 .rw false false .no 0 0 (.val 0) (some 0) false]⟩,
  -- CRV_PAH: PTR (10 CAL-10)
  ⟨0x604, [], 0, .hostOnly, .all,
    [fld 11 0 .rw false false .no 0 0 (.val 0) none false]⟩,
  -- CRV_PD: DATA (10 CAL-10)
  ⟨0x605, [], 0, .all, .all,
    [fld 17 0 .rw false false .no 0 0 .keep none false]⟩,
  -- CRV_STAT: CJFB UTLD UTV (10 CAL-10)
  ⟨0x606, [], 0, .s0, .all,
    [fld 9 9 .w1c false false .no 0 0 (.val 0) none false,
     fld 8 8 .ro false false .no 0 0 (.val 0) none false,
     fld 7 0 .ro false false .no 0 0 (.val 0) none false]⟩,
  -- CAL_CTL: AGE DT FSTORE (10 CAL-11)
  ⟨0x608, [], 0, .s0, .all,
    [fld 17 10 .rw true false .no 0 0 .keep none false,
     fld 9 4 .rw true false .no 0 0 .keep none false,
     fld 3 3 .rw true false .no 0 0 .keep none false]⟩,
  -- CAL_STAT: STALE ACTIVE ACTSEC QCNT PSTORE PREPL PCLR (10 CAL-11)
  ⟨0x609, [], 0, .s0, .all,
    [fld 17 14 .ro false false .no 0 0 (.val 0) none false,
     fld 13 13 .ro false false .no 0 0 (.val 0) none false,
     fld 12 11 .ro false false .no 0 0 (.val 0) none false,
     fld 10 9 .ro false false .no 0 0 (.val 0) none false,
     fld 8 8 .ro false false .no 0 0 (.val 0) none false,
     fld 7 4 .ro false false .no 0 0 (.val 0) none false,
     fld 3 3 .wo false false .no 0 0 (.val 0) none false]⟩,
  -- CAL_RES: KIND CODE FG LANE (10 CAL-11)
  ⟨0x60A, [(4, 1)], 0, .nobody, .ownS0,
    [fld 17 15 .ro false false .no 0 0 (.val 0) (some 0) false,
     fld 14 12 .ro false false .no 0 0 (.val 0) (some 0) false,
     fld 11 11 .ro false false .no 0 0 (.val 0) (some 0) false,
     fld 10 9 .ro false false .no 0 0 (.val 0) (some 0) false]⟩]

/-- Registers of the OUT block, 680h to 6FFh. -/
def outRows : List RegRow := [
  -- OUT_FSW: STATE CMD PEND RCNT DA LATCH RLIMF REV BF TSD OC BFX (11 OUT-8)
  ⟨0x680, [(4, 1)], 0, .lockHolder, .all,
    [fld 17 15 .ro false false .no 0 0 .keep none false,
     fld 14 14 .ro false false .no 0 0 .keep none false,
     fld 13 13 .ro false false .no 0 0 .keep none false,
     fld 12 9 .ro false false .no 0 0 .keep none false,
     fld 8 8 .ro false false .no 0 0 .keep none false,
     fld 7 7 .ro false false .no 0 0 .keep none false,
     fld 6 6 .w1c false false .no 0 0 (.val 0) none false,
     fld 5 5 .w1c false false .no 0 0 (.val 0) none false,
     fld 4 4 .w1c false false .no 0 0 (.val 0) none false,
     fld 3 3 .w1c false false .no 0 0 (.val 0) none false,
     fld 2 2 .w1c false false .no 0 0 (.val 0) none false,
     fld 1 1 .ro false false .no 0 0 (.val 0) none false]⟩,
  -- OUT_FSWCFG: RETRY RLIM PEN PARTNER (11 OUT-8)
  ⟨0x684, [(4, 1)], 0, .s0, .all,
    [fld 17 16 .rw true false .no 0 0 .keep none false,
     fld 15 12 .rw true false .no 0 0 .keep none false,
     fld 11 11 .rw true false .no 0 0 .keep none false,
     fld 10 9 .rw true false .no 0 0 .keep none false]⟩,
  -- OUT_DISP: SLVL DAO DFSW (11 OUT-9)
  ⟨0x688, [], 0, .s0, .all,
    [fld 15 12 .rw true false .yes 0 0 .keep none true,
     fld 11 8 .rw true false .yes 0 0 .keep none true,
     fld 7 0 .rw true false .yes 0 0 .keep none true]⟩,
  -- OUT_AOSAFE: SAFE (11 OUT-10)
  ⟨0x689, [(2, 1)], 0, .s0, .all,
    [fld 17 0 .rw true false .yes 0 0 .keep none true]⟩,
  -- OUT_AOPARK: PARK (11 OUT-10)
  ⟨0x68B, [(2, 1)], 0, .s0, .all,
    [fld 17 0 .rw true false .no 0 0 .keep none false]⟩,
  -- OUT_AOCTL: EN RNG FACT LIM43 PEND (11 OUT-10)
  ⟨0x68D, [(2, 1)], 0, .nobody, .all,
    [fld 17 17 .ro false false .no 0 0 .keep none false,
     fld 16 15 .ro false false .no 0 0 .keep none false,
     fld 14 13 .ro false false .no 0 0 .keep none false,
     fld 12 12 .ro false false .no 0 0 .keep none false,
     fld 0 0 .ro false false .no 0 0 .keep none false]⟩,
  -- OUT_AOCODE: CODE (11 OUT-10)
  ⟨0x68F, [(2, 1)], 0, .nobody, .all,
    [fld 17 0 .ro false false .no 0 0 .keep none false]⟩,
  -- OUT_SHCTL: BRK SHA SHF (11 OUT-9)
  ⟨0x691, [], 0, .s0, .all,
    [fld 11 6 .rw true false .yes 0x21 0x21 .keep none true,
     fld 5 4 .rw true false .yes 0 0 .keep none true,
     fld 3 0 .rw true false .yes 0 0 .keep none true]⟩,
  -- OUT_AOST: STATE RANGEBUSY CPEND DA VLOW OVL COMP FIGHT RNGX (11 OUT-10)
  ⟨0x692, [(2, 1)], 0, .lockHolder, .all,
    [fld 17 15 .ro false false .no 0 0 .keep none false,
     fld 14 14 .ro false false .no 0 0 .keep none false,
     fld 13 13 .ro false false .no 0 0 .keep none false,
     fld 12 12 .ro false false .no 0 0 .keep none false,
     fld 4 4 .w1c false false .no 0 0 (.val 0) none false,
     fld 3 3 .w1c false false .no 0 0 (.val 0) none false,
     fld 2 2 .w1c false false .no 0 0 (.val 0) none false,
     fld 1 1 .w1c false false .no 0 0 (.val 0) none false,
     fld 0 0 .w1c false false .no 0 0 (.val 0) none false]⟩,
  -- OUT_AORB: RB (11 OUT-10)
  ⟨0x694, [(2, 1)], 0, .nobody, .all,
    [fld 17 0 .ro false false .no 0 0 (.val 0) none false]⟩,
  -- OUT_STAT: VUV CLR REPL (11 OUT-9)
  ⟨0x696, [], 0, .s0, .all,
    [fld 17 17 .ro false false .no 0 0 .keep none false,
     fld 16 16 .wo false false .no 0 0 (.val 0) none false,
     fld 15 0 .ro false false .no 0 0 (.val 0) none false]⟩]

/-- Registers of the HOST block, 700h to 77Fh. -/
def hostRows : List RegRow := [
  -- HST_CFG: DIRQ (13 HST-7)
  ⟨0x700, [], 0, .s0, .all,
    [fld 17 17 .rw false false .no 0 0 (.val 0) none false]⟩,
  -- HST_STAT: STATE OP SECT HWEXP SERVED (13 HST-7)
  ⟨0x701, [], 0, .s0, .all,
    [fld 17 16 .ro false false .no 0 0 (.val 0) none false,
     fld 15 12 .ro false false .no 0 0 (.val 0) none false,
     fld 11 10 .ro false false .no 0 0 (.val 0) none false,
     fld 9 9 .w1c false true .no 0 0 (.val 0) none false,
     fld 8 0 .ro false false .no 0 0 (.val 0) none false]⟩,
  -- HOST_WDT: ACT LIM (13 HST-7)
  ⟨0x702, [], 0, .s0, .all,
    [fld 17 17 .rw true true .no 0 0 .keep none false,
     fld 11 0 .rw true true .no 0 0 .keep none false]⟩,
  -- HST_WDC: COUNT (13 HST-7)
  ⟨0x703, [], 0, .nobody, .all,
    [fld 11 0 .ro false true .no 0 0 (.val 0) none false]⟩,
  -- HST_ERRA: HDRC DATC ILLC (13 HST-7)
  ⟨0x704, [], 0, .s0, .all,
    [fld 17 12 .ro false false .no 0 0 (.val 0) none false,
     fld 11 6 .ro false false .no 0 0 (.val 0) none false,
     fld 5 0 .ro false false .no 0 0 (.val 0) none false]⟩,
  -- HST_ERRB: BUSYC DENC RNGC TRUNC LONG UNCOLL CLR (13 HST-7)
  ⟨0x705, [], 0, .s0, .all,
    [fld 17 15 .ro false false .no 0 0 (.val 0) none false,
     fld 14 12 .ro false false .no 0 0 (.val 0) none false,
     fld 11 9 .ro false false .no 0 0 (.val 0) none false,
     fld 8 6 .ro false false .no 0 0 (.val 0) none false,
     fld 5 3 .ro false false .no 0 0 (.val 0) none false,
     fld 2 1 .ro false false .no 0 0 (.val 0) none false,
     fld 0 0 .wo false false .no 0 0 (.val 0) none false]⟩,
  -- VLOG: WORD (13 HST)
  ⟨0x720, [(96, 1)], 0, .nobody, .all,
    [fld 17 0 .ro false true .no 0 0 .keep none true]⟩]

/-- Registers of the TW block, 780h to 7FFh. -/
def twRows : List RegRow := [
  -- TW_CTL: CMD CLR PREF EN (14 TWN-7)
  ⟨0x780, [], 0, .s0, .all,
    [fld 17 16 .wo true false .no 0 0 (.val 0) none false,
     fld 2 2 .wo false false .no 0 0 (.val 0) none false,
     fld 1 1 .rw true false .no 0 0 .keep none false,
     fld 0 0 .rw true false .no 0 0 .keep none false]⟩,
  -- TW_CFG: MISS RETRY (14 TWN-7)
  ⟨0x781, [], 0, .s0, .all,
    [fld 14 12 .rw true false .no 3 3 .keep none false,
     fld 11 4 .rw true false .no 0x14 0x14 .keep none false]⟩,
  -- TW_HBWIN: HBWIN (14 TWN-7)
  ⟨0x782, [], 0, .s0, .all,
    [fld 17 0 .rw true false .no 0 0 .keep none false]⟩,
  -- TW_STAT: ROLE LINK PRES CLMLINE CLMOWN TRN SPLIT CLMCOL MIRLATE PERX MISSCNT (14 TWN-7)
  ⟨0x783, [], 0, .s0, .all,
    [fld 17 16 .ro false false .yes 0 0 (.val 0) none false,
     fld 15 15 .ro false false .no 0 0 (.val 0) none false,
     fld 14 14 .ro false true .no 0 0 (.val 0) none false,
     fld 13 13 .ro false true .no 0 0 (.val 0) none false,
     fld 12 12 .ro false false .yes 0 0 (.val 0) none false,
     fld 11 11 .ro false false .no 0 0 (.val 0) none false,
     fld 10 10 .w1c false false .no 0 0 (.val 0) none false,
     fld 9 9 .w1c false false .no 0 0 (.val 0) none false,
     fld 8 8 .w1c false false .no 0 0 (.val 0) none false,
     fld 7 7 .w1c false false .no 0 0 (.val 0) none false,
     fld 6 4 .ro false false .no 0 0 (.val 0) none false]⟩,
  -- TW_INC: INC (14 TWN-7)
  ⟨0x784, [], 0, .nobody, .all,
    [fld 17 0 .ro false true .no 0 0 .keep none true]⟩,
  -- TW_PINC: PINC (14 TWN-7)
  ⟨0x785, [], 0, .nobody, .all,
    [fld 17 0 .ro false false .no 0 0 (.val 0) none false]⟩,
  -- TW_MSYNC: FULL AGE (14 TWN-7)
  ⟨0x786, [], 0, .nobody, .all,
    [fld 17 17 .ro false false .no 0 0 (.val 0) none false,
     fld 11 0 .ro false false .no 0xFFF 0xFFF (.val 0xFFF) none false]⟩,
  -- TW_PVL: PVL (14 TWN-7)
  ⟨0x787, [], 0, .nobody, .all,
    [fld 15 0 .ro false false .no 0 0 (.val 0) none false]⟩,
  -- TW_ERRA: CRCE OOS RTX (14 TWN-7)
  ⟨0x788, [], 0, .nobody, .all,
    [fld 17 12 .ro false false .no 0 0 (.val 0) none false,
     fld 11 6 .ro false false .no 0 0 (.val 0) none false,
     fld 5 0 .ro false false .no 0 0 (.val 0) none false]⟩,
  -- TW_ERRB: CODEE TYPX MIRX BABL TXLOST COLL (14 TWN-7)
  ⟨0x789, [], 0, .nobody, .all,
    [fld 17 15 .ro false false .no 0 0 (.val 0) none false,
     fld 14 12 .ro false false .no 0 0 (.val 0) none false,
     fld 11 9 .ro false false .no 0 0 (.val 0) none false,
     fld 8 6 .ro false false .no 0 0 (.val 0) none false,
     fld 5 3 .ro false false .no 0 0 (.val 0) none false,
     fld 2 0 .ro false false .no 0 0 (.val 0) none false]⟩,
  -- TW_RXBASE: BASE (14 TWN-7)
  ⟨0x790, [(4, 1)], 0, .own, .ownS0,
    [fld 17 0 .rw false false .no 0 0 (.val 0) (some 0) false]⟩,
  -- TW_RX: POP DOWNC HEAD DROP CNT (14 TWN-7)
  ⟨0x794, [(4, 1)], 0, .own, .ownS0,
    [fld 17 17 .wo false false .no 0 0 (.val 0) (some 0) false,
     fld 10 8 .ro false false .no 0 0 (.val 0) none false,
     fld 7 6 .ro false false .no 0 0 (.val 0) (some 0) false,
     fld 5 3 .ro false false .no 0 0 (.val 0) (some 0) false,
     fld 2 0 .ro false false .no 0 0 (.val 0) (some 0) false]⟩]

/-- Registers of the NET block, 800h to AFFh. -/
def netRows0 : List RegRow := [
  -- FIR: C (09 R233)
  ⟨0x800, [(4, 128), (2, 64), (64, 1)], 0, .lane, .laneS0,
    [fld 17 0 .rw false false .no 0 0 .keep none false]⟩,
  -- NET_CTL: IPEN ANEN AMP FMS TXTO (15 NET-6)
  ⟨0xA00, [], 0, .s0, .all,
    [fld 17 17 .rw true false .no 0 0 .keep none false,
     fld 16 16 .rw true false .no 1 1 .keep none false,
     fld 15 14 .rw true false .no 0 0 .keep none false,
     fld 13 13 .rw true false .no 0 0 .keep none false,
     fld 12 0 .rw true false .no 0x200 0x200 .keep none false]⟩,
  -- NET_ETYPE: ETYPE (15 NET-6)
  ⟨0xA01, [], 0, .s0, .all,
    [fld 15 0 .rw true false .no 0x88B5 0x88B5 .keep none false]⟩,
  -- NET_STAT: LINK AMPA MSA SEQLOST LDOWN (15 NET-6)
  ⟨0xA02, [], 0, .s0, .all,
    [fld 17 16 .ro false true .no 0 0 (.val 0) none false,
     fld 15 15 .ro false true .no 0 0 (.val 0) none false,
     fld 14 14 .ro false true .no 0 0 (.val 0) none false,
     fld 13 10 .ro false true .no 0xF 0xF .keep none false,
     fld 9 7 .ro false true .no 0 0 (.val 0) none false]⟩,
  -- NET_MAC: MAC (15 NET-6)
  ⟨0xA03, [(3, 1)], 0, .nobody, .all,
    [fld 15 0 .ro false false .no 0 0 .keep none false]⟩,
  -- NET_AUTH: AREQ KSL (15 NET-6)
  ⟨0xA06, [], 0, .s0, .all,
    [fld 11 8 .rw true false .yes 0xF 0xF .keep none false,
     fld 7 0 .rw true false .yes 0xE4 0xE4 .keep none false]⟩,
  -- NET_VLAN: VEN TCI (15 NET-6)
  ⟨0xA07, [], 0, .s0, .all,
    [fld 16 16 .rw true false .no 0 0 .keep none false,
     fld 15 0 .rw true false .no 0 0 .keep none false]⟩,
  -- NET_IPH: IP (15 NET-6)
  ⟨0xA08, [], 0, .s0, .all,
    [fld 15 0 .rw true false .no 0 0 .keep none false]⟩,
  -- NET_IPL: IP (15 NET-6)
  ⟨0xA09, [], 0, .s0, .all,
    [fld 15 0 .rw true false .no 0 0 .keep none false]⟩,
  -- NET_GW: GW (15 NET-6)
  ⟨0xA0A, [(3, 1)], 0, .s0, .all,
    [fld 15 0 .rw true false .no 0 0 .keep none false]⟩,
  -- NET_UPORT: PORT (15 NET-6)
  ⟨0xA0D, [], 0, .s0, .all,
    [fld 15 0 .rw true false .no 0 0 .keep none false]⟩,
  -- NET_IPT: TTL TOS (15 NET-6)
  ⟨0xA0E, [], 0, .s0, .all,
    [fld 15 8 .rw true false .no 0x40 0x40 .keep none false,
     fld 7 0 .rw true false .no 0 0 .keep none false]⟩]

/-- Registers of the NET block, 800h to AFFh. -/
def netRows1 : List RegRow := [
  -- NET_TELEM: TEN TDROP TPER (15 NET-6)
  ⟨0xA0F, [], 0, .s0, .all,
    [fld 17 17 .rw true false .no 0 0 .keep none false,
     fld 16 14 .ro false false .no 0 0 (.val 0) none false,
     fld 11 0 .rw true false .no 0 0 .keep none false]⟩,
  -- NET_TXSEQH: TXSEQ (15 NET-7)
  ⟨0xA10, [(4, 2)], 0, .s0, .all,
    [fld 15 0 .rw true true .no 0 0 .keep none false]⟩,
  -- NET_TXSEQL: TXSEQ (15 NET-7)
  ⟨0xA11, [(4, 2)], 0, .s0, .all,
    [fld 15 0 .rw true true .no 0 0 .keep none false]⟩,
  -- NET_RXSEQH: RXSEQ (15 NET-7)
  ⟨0xA18, [(4, 2)], 0, .s0, .all,
    [fld 15 0 .rw true true .no 0 0 .keep none false]⟩,
  -- NET_RXSEQL: RXSEQ (15 NET-7)
  ⟨0xA19, [(4, 2)], 0, .s0, .all,
    [fld 15 0 .rw true true .no 0 0 .keep none false]⟩,
  -- NET_RXBASE: BASE (15 NET-7)
  ⟨0xA20, [(4, 1)], 0, .own, .ownS0,
    [fld 17 0 .rw false false .no 0 0 (.val 0) (some 0) false]⟩,
  -- NET_RX: POP HEAD DROP CNT (15 NET-7)
  ⟨0xA24, [(4, 1)], 0, .own, .ownS0,
    [fld 17 17 .wo false false .no 0 0 (.val 0) (some 0) false,
     fld 7 6 .ro false false .no 0 0 (.val 0) (some 0) false,
     fld 5 3 .ro false false .no 0 0 (.val 0) (some 0) false,
     fld 2 0 .ro false false .no 0 0 (.val 0) (some 0) false]⟩,
  -- NET_DST: DST (15 NET-7)
  ⟨0xA30, [(4, 8), (6, 1)], 0, .s0, .all,
    [fld 15 0 .rw true false .no 0 0 .keep none false]⟩,
  -- NET_ERRA: FCSE LENE TYPE (15 NET-8)
  ⟨0xA50, [], 0, .s0, .all,
    [fld 17 12 .ro false false .no 0 0 (.val 0) none false,
     fld 11 6 .ro false false .no 0 0 (.val 0) none false,
     fld 5 0 .ro false false .no 0 0 (.val 0) none false]⟩,
  -- NET_ERRB: TAGE RPLE HDRE (15 NET-8)
  ⟨0xA51, [], 0, .s0, .all,
    [fld 17 12 .ro false false .no 0 0 (.val 0) none false,
     fld 11 6 .ro false false .no 0 0 (.val 0) none false,
     fld 5 0 .ro false false .no 0 0 (.val 0) none false]⟩,
  -- NET_ERRC: RXDROP RXSTALE NAKSUP TXTO KEYX ACKDROP CLR (15 NET-8)
  ⟨0xA52, [], 0, .s0, .all,
    [fld 17 15 .ro false false .no 0 0 (.val 0) none false,
     fld 14 12 .ro false false .no 0 0 (.val 0) none false,
     fld 11 9 .ro false false .no 0 0 (.val 0) none false,
     fld 8 6 .ro false false .no 0 0 (.val 0) none false,
     fld 5 3 .ro false false .no 0 0 (.val 0) none false,
     fld 2 1 .ro false false .no 0 0 (.val 0) none false,
     fld 0 0 .wo false false .no 0 0 (.val 0) none false]⟩]

/-- Registers of the MEM block, B00h to BFFh. -/
def memRows0 : List RegRow := [
  -- MEM_HECC: SCNT DCNT WBOVF SDED DED SBE (12 MEM-10)
  ⟨0xB00, [], 0, .s0, .all,
    [fld 17 12 .ro false false .no 0 0 (.val 0) none false,
     fld 11 8 .ro false false .no 0 0 (.val 0) none false,
     fld 3 3 .w1c false false .no 0 0 (.val 0) none false,
     fld 2 2 .w1c false false .no 0 0 (.val 0) none false,
     fld 1 1 .w1c false false .no 0 0 (.val 0) none false,
     fld 0 0 .w1c false false .no 0 0 (.val 0) none false]⟩,
  -- MEM_HEADDR: ADDR (12 MEM-10)
  ⟨0xB01, [], 0, .s0, .all,
    [fld 15 0 .ro false false .no 0 0 (.val 0) none false]⟩,
  -- MEM_SCRUB: EN PTR (12 MEM-10)
  ⟨0xB02, [], 0, .s0, .all,
    [fld 17 17 .rw true false .no 1 1 (.val 1) none false,
     fld 15 0 .ro false false .no 0 0 (.val 0) none false]⟩,
  -- MEM_SCRPASS: PASS (12 MEM-10)
  ⟨0xB03, [], 0, .s0, .all,
    [fld 17 0 .ro false false .no 0 0 (.val 0) none false]⟩,
  -- MEM_MIR: MIR (12 MEM-10)
  ⟨0xB04, [(4, 1)], 0, .nobody, .all,
    [fld 15 0 .ro false false .no 0 0 (.val 0) none false]⟩,
  -- MEM_THP: PTR (12 MEM-10)
  ⟨0xB08, [], 0, .s0, .all,
    [fld 8 0 .rw false false .no 0 0 (.val 0) none false]⟩,
  -- MEM_THD: DATA (12 MEM-10)
  ⟨0xB09, [], 0, .s0, .all,
    [fld 17 0 .rw false false .no 0 0 .keep none false]⟩,
  -- MEM_VLOG: CLR HEAD CNT OVW DROP (12 MEM-10)
  ⟨0xB0A, [], 0, .s0, .all,
    [fld 17 17 .wo false false .no 0 0 (.val 0) none false,
     fld 16 12 .ro false true .no 0 0 .keep none true,
     fld 11 6 .ro false true .no 0 0 .keep none true,
     fld 5 3 .ro false true .no 0 0 .keep none true,
     fld 2 0 .ro false true .no 0 0 .keep none true]⟩,
  -- FL_ADDR: GRAN (12 MEM-10)
  ⟨0xB10, [(4, 4)], 0, .own, .ownS0,
    [fld 14 0 .rw false false .no 0 0 (.val 0) (some 0) false]⟩,
  -- FL_HOFS: HOFS (12 MEM-10)
  ⟨0xB11, [(4, 4)], 0, .own, .ownS0,
    [fld 17 0 .rw false false .no 0 0 (.val 0) (some 0) false]⟩,
  -- FL_CMD: OP CNTM1 (12 MEM-10)
  ⟨0xB12, [(4, 4)], 0, .own, .ownS0,
    [fld 17 15 .wo false false .no 0 0 (.val 0) (some 0) false,
     fld 14 9 .wo false false .no 0 0 (.val 0) (some 0) false]⟩,
  -- FL_RES: STATE CODE (12 MEM-10)
  ⟨0xB13, [(4, 4)], 0, .own, .ownS0,
    [fld 17 16 .ro false false .no 0 0 (.val 0) none false,
     fld 15 12 .ro false false .no 0 0 (.val 0) none false]⟩]

/-- Registers of the MEM block, B00h to BFFh. -/
def memRows1 : List RegRow := [
  -- FL_STAT: AOP ASEC QCNT SUSP RECL WEAR EOL POLF (12 MEM-10)
  ⟨0xB20, [], 0, .s0, .all,
    [fld 17 15 .ro false false .no 0 0 (.val 0) none false,
     fld 14 13 .ro false false .no 0 0 (.val 0) none false,
     fld 12 11 .ro false false .no 0 0 (.val 0) none false,
     fld 10 10 .ro false false .no 0 0 (.val 0) none false,
     fld 9 9 .ro false false .no 0 0 (.val 0) none false,
     fld 8 8 .ro false false .no 0 0 (.val 0) none false,
     fld 7 7 .ro false false .no 0 0 (.val 0) none false,
     fld 6 6 .ro false false .no 0 0 (.val 0) none false]⟩,
  -- FL_PGSEL: SUSPECT PAGE (12 MEM-10)
  ⟨0xB21, [], 0, .s0, .all,
    [fld 17 17 .ro false false .no 0 0 (.val 0) none false,
     fld 6 0 .rw false false .no 0 0 (.val 0) none false]⟩,
  -- FL_PGEC: EC (12 MEM-10)
  ⟨0xB22, [], 0, .s0, .all,
    [fld 17 0 .ro false false .no 0 0 (.val 0) none false]⟩,
  -- FL_ECMAX: EC (12 MEM-10)
  ⟨0xB23, [], 0, .s0, .all,
    [fld 17 0 .ro false false .no 0 0 (.val 0) none false]⟩,
  -- FL_JRNL: HEADPG HEADREC (12 MEM-10)
  ⟨0xB24, [], 0, .s0, .all,
    [fld 17 11 .ro false false .no 0x40 0x40 (.val 0x40) none false,
     fld 10 4 .ro false false .no 0 0 (.val 0) none false]⟩,
  -- MEM_OTPA: ADDR (12 MEM-10)
  ⟨0xB30, [], 0, .s0, .all,
    [fld 10 0 .rw false false .no 0 0 (.val 0) none false]⟩,
  -- MEM_OTPD: DATA (12 MEM-10)
  ⟨0xB31, [], 0, .s0, .all,
    [fld 7 0 .rw true false .no 0 0 .keep none false]⟩,
  -- MEM_OTPST: BUSY FAIL (12 MEM-10)
  ⟨0xB32, [], 0, .s0, .all,
    [fld 17 17 .ro false false .no 0 0 (.val 0) none false,
     fld 16 16 .w1c false false .no 0 0 (.val 0) none false]⟩,
  -- MEM_KCV: KVALID KCV (12 MEM-10)
  ⟨0xB34, [(4, 1)], 0, .nobody, .all,
    [fld 16 16 .ro false false .no 0 0 .keep none false,
     fld 15 0 .ro false false .no 0 0 .keep none false]⟩]

/-- The whole map. -/
def regMap : List RegRow :=
  sysRows0 ++ sysRows1 ++ pwrRows0 ++ pwrRows1 ++ ldgRows0 ++ ldgRows1 ++ schRows0 ++ schRows1 ++ secRows0 ++ secRows1 ++ lockRows ++ laneRows ++ chanRows0 ++ chanRows1 ++ afeRows ++ calRows ++ outRows ++ hostRows ++ twRows ++ netRows0 ++ netRows1 ++ memRows0 ++ memRows1

/-- The instance of a strided register that an offset from its base names, outermost index first; `none` when it names none. -/
def instanceOf : List (Nat × Nat) → Nat → Option (List Nat)
  | [], off => if off = 0 then some [] else none
  | (count, stride) :: rest, off =>
    if off / stride < count then (instanceOf rest (off % stride)).map (off / stride :: ·) else none

/-- The instance of row `r` at resolved address `a`. -/
def RegRow.at (r : RegRow) (a : Nat) : Option (List Nat) :=
  if a < r.base then none else
  match instanceOf r.dims (a - r.base) with
  | some ix => if ix.headD 0 < r.first then none else some ix
  | none => none

/-- The register at a resolved address with its instance; `none` for a reserved address (18 R413). -/
def findReg (a : Nat) : List RegRow → Option (RegRow × List Nat)
  | [] => none
  | r :: rs => match r.at a with
    | some ix => some (r, ix)
    | none => findReg a rs

/-- The map looked up. -/
def regAt (a : Nat) : Option (RegRow × List Nat) := findReg a regMap

/-- The bits a field occupies in its word. -/
def FieldRow.mask (f : FieldRow) : Word := BitVec.ofNat 18 ((2 ^ (f.hi + 1 - f.lo) - 1) * 2 ^ f.lo)

/-- A value shifted into a field's place. -/
def FieldRow.place (f : FieldRow) (v : Nat) : Word := BitVec.ofNat 18 ((v % 2 ^ (f.hi + 1 - f.lo)) * 2 ^ f.lo)

/-- The POR value of a field in an instance. WO fields hold nothing and read 0 (00 R12). -/
def FieldRow.porOf (f : FieldRow) (ix : List Nat) : Nat :=
  if f.acc = .wo then 0 else if ix.headD 0 = 0 then f.por0 else f.por

/-- The word a register holds after POR (the POR column of its table). -/
def RegRow.porWord (r : RegRow) (ix : List Nat) : Word :=
  r.fields.foldl (fun w f => w ||| f.place (f.porOf ix)) 0

/-- The POR word at an address; 0 where no register is. -/
def regPor (a : Nat) : Word :=
  match regAt a with
  | some (r, ix) => r.porWord ix
  | none => 0

/-- The bits of a word that lie in fields satisfying `p`. -/
def RegRow.maskOf (r : RegRow) (p : FieldRow → Bool) : Word :=
  r.fields.foldl (fun w f => if p f then w ||| f.mask else w) 0

end Sys2Proof.Machine
end

