-- ==== Sys2Proof/Machine/State.lean ====
section
/-! DEFINITION. The state of the block as plain data, unit by unit. Visible registers live in `regs` (Machine/RegTable.lean gives their
layout and reset values); the structures below hold what no register shows. Each field names the rule of spec/ that gives it and the
value it has at reset. -/

namespace Sys2Proof.Machine

/-- No meaning stops with a fault: every rule of spec/ gives an effect. The constructor is raised by nobody (safe: it allows nothing). -/
inductive Fault where
  /-- Raised by nobody. -/
  | none
  deriving DecidableEq, Repr

/-- Why a command is refused by the model. -/
inductive Refusal where
  /-- Raised by an arm of `exec` whose command has no meaning yet (safe: nothing is claimed of it). -/
  | notModelled (mnemonic : String)
  deriving DecidableEq, Repr

/-! ## Sequence engine (02, 03, 04) -/

/-- What the read of a Hamper word tells when it is made (03 R73, 12 R275, R276): the word was not in window, stood undamaged, was corrected,
or was uncorrectable. -/
inductive ReadNote where
  | miss
  | clean
  | corrected (p : Nat)
  | damaged (p : Nat)
  deriving DecidableEq, Repr

/-- Where a result in flight goes (03 R61 to R63). `accum` adds to the accumulator it finds in its last cycle; a load, which reads Hamper in
its last cycle, brings what its reads tell (R84), and a crv writes its descriptor's LASTV with its result (10 R235). -/
inductive Dest where
  | w (d : Fin 16) (v : Word)
  | a (d : Fin 4) (v : Acc)
  | wLoad (d : Fin 16) (v : Word) (k : ReadNote)
  | aLoad (d : Fin 4) (v : Acc) (hi lo : ReadNote)
  | p (d : Fin 8) (v : Bool)
  | accum (d : Fin 4) (v : Int)
  | curve (d : Fin 16) (v : Word) (desc : Nat)
  deriving DecidableEq, Repr

/-- A result in flight: its sector, the cycles until it is written, its destination, and whether a clamp to SAT goes with it (04 R88). -/
structure Flight where
  sec : Sector
  rem : Nat
  dest : Dest
  sat : Bool
  deriving DecidableEq, Repr

/-- A copy that nsend or tsend makes word by word after its issue (04 R109): two words a cycle to the network, one to the partner.
`item` names the transmit descriptor or message entry that the words join. -/
structure SendCopy where
  sec : Sector
  toNet : Bool
  base : Word
  left : Nat
  item : Nat
  deriving DecidableEq, Repr

/-- An open slot of a segment (02 Table CON-4). -/
structure OpenSlot where
  svc : Nat
  ofs : Nat
  slen : Nat
  deriving DecidableEq, Repr

/-- A segment record with its slots (02 Table CON-3). -/
structure SegRec where
  start : Nat
  entry : Nat
  dcyc : Nat
  qseg : Nat
  slots : List OpenSlot
  deriving DecidableEq, Repr

/-- A tier entry with its segments (02 Table CON-2). -/
structure TierEntry where
  frame : Nat
  tier : Nat
  selev : Nat
  cyc : Nat
  qdecl : Nat
  segs : List SegRec
  deriving DecidableEq, Repr

/-- The tables of a loaded image (02 R33, R36). -/
structure Image where
  tiers : Nat
  nfrm : Nat
  nbun : Nat
  wgran : Nat
  mirror : BitVec 64
  entries : List TierEntry
  deriving DecidableEq, Repr

/-- The segment the engine runs (02 R31, R39; 03 R66). `cyc` is the number of the next cycle counted from the first bundle, `slotPos`
the cycles already used of the open slot at `cyc`, `redirects` the branches taken with the bundles still to issue before each target;
`ending` after the ending bundle, `cancel` after FX, `overran` after OVERRUN, `kill` when a reset or DED stops the sector's issue. -/
structure RunSeg where
  sec : Sector
  frame : Nat
  tier : Nat
  idx : Nat
  seg : SegRec
  cyc : Nat
  slotPos : Nat
  pc : Nat
  redirects : List (Nat × Nat)
  ending : Bool
  cancel : Bool
  overran : Bool
  kill : Bool
  deriving DecidableEq, Repr

/-- A segment whose anchor has come and that waits for the engine (01 R27, R28): its sector, frame, tier, index and anchor's tick. -/
structure Waiting where
  sec : Sector
  frame : Nat
  tier : Nat
  idx : Nat
  anchor : Nat
  deriving DecidableEq, Repr

/-- The sequence engine. -/
structure Engine where
  /-- 01 R17: the running segment; reset none. -/
  cur : Option RunSeg := none
  /-- 04 R89: the sector whose drain is going on; reset none. -/
  drain : Option Sector := none
  /-- 01 R28: segments waiting for the engine; reset none. -/
  waiting : List Waiting := []
  /-- 03 R61: results in flight, in issue order and within a bundle A, K, M, X (R65); reset none. -/
  flights : List Flight := []
  /-- 04 R109: send copies in progress; reset none. -/
  copies : List SendCopy := []
  /-- 03 R79: instruction memory, 8192 bundles; reset: not stated, DESIGN CHOICE 0. -/
  imem : List (Nat × Bundle) := []
  /-- 03 R79: bundles stored with bit errors; reset none. -/
  imemUpset : List (Nat × Upset) := []
  /-- 03 R80: corrected bundles queued for write-back by SCRUB; reset none. -/
  imemFix : List Nat := []
  /-- 01 R25 step 7: the boundary prologue of this frame has yet to run; reset no. -/
  prologueDue : Bool := false
  deriving DecidableEq, Repr

/-! ## Sectors (02, 03, 05) -/

/-- A latched set of PWR_REQ states: PWR_REQA, PWR_REQB, PWR_REQC (03 R70). -/
structure Votes where
  a : Word
  b : Word
  c : Word
  deriving DecidableEq, Repr

/-- What a sector has beside its registers. -/
structure SectorSt where
  /-- 03 R52: w0 to w15; reset 0 (R53). -/
  w : Vector Word 16 := Vector.replicate 16 0
  /-- 03 R52: a0 to a3; reset 0 (R53). -/
  a : Vector Acc 4 := Vector.replicate 4 0
  /-- 03 R52: p0 to p7; reset 0 (R53; p0 reads 1). -/
  p : Vector Bool 8 := Vector.replicate 8 false
  /-- 03 R67: return stack, newest first, at most 4 entries of 13 bits; reset empty. -/
  stack : List (BitVec 13) := []
  /-- 03 R70: the WAIT latch; reset not valid. -/
  latch : Option Votes := none
  /-- 03 R53: CORE has been OFF, or the sector reset, since its last segment; reset yes. -/
  lost : Bool := true
  /-- 04 R103: header of the sample last popped from each lane; none where phdr returns 3FFFFh; reset none. -/
  lastPop : Vector (Option Word) 4 := Vector.replicate 4 none
  /-- 02 R36: tables of the loaded image; reset none. -/
  image : Option Image := none
  /-- 01 R25 step 4: marked running for the frame in progress; reset no. -/
  inFrame : Bool := false
  /-- 01 R15: skip counter; reset 0. -/
  skipLeft : Nat := 0
  /-- 03 R76: frame chosen; reset 0. -/
  frame : Nat := 0
  /-- 02 R38: tier run, resolved to one present; reset 0. -/
  tier : Nat := 0
  /-- 01 R25 step 6: index of the next segment whose alarm is armed; reset 0. -/
  nextSeg : Nat := 0
  /-- 03 R68: FX has cancelled the frame's remaining segments; reset no. -/
  cancelled : Bool := false
  /-- 03 R69: QSEG of cancelled segments, pC; reset 0. -/
  qCancelled : Nat := 0
  /-- 02 R46: a breach of this frame has determined the action; reset no. -/
  acted : Bool := false
  /-- 02 R48: breach kinds logged this frame; reset none. -/
  logged : List Nat := []
  /-- 02 R42: booking cycles served this frame; reset 0. -/
  used : Nat := 0
  /-- 05 R124: host words served this frame; reset 0. -/
  hostWords : Nat := 0
  /-- 05 R124: lane-ticks counted this frame; reset 0. -/
  laneTicks : Nat := 0
  /-- 05 R123: watchdog count, ticks; reset 0. -/
  wdt : Nat := 0
  /-- 05 R119: a reset triggered while CORE sleeps, waiting for the core, with its cause; reset none. -/
  rstWait : Option Nat := none
  /-- 05 R119: reset actions in progress; reset no. -/
  rstBusy : Bool := false
  /-- 05 R116: SEC_GRANT in force; reset as the register. -/
  grant : Word := 0
  /-- 05 R116: SEC_GRANT2 in force; reset as the register. -/
  grant2 : Word := 0
  /-- 05 R116: SEC_DESC in force; reset as the register. -/
  desc : Word := 0
  /-- 05 R122: lines that have sent their EVENT frame this frame; reset none. -/
  lineSent : Vector Bool 4 := Vector.replicate 4 false
  /-- 07 R165, R166: cycles since the last ledger tick in which CORE worked for the sector: segments, drains, the fall after a drain, reset
  actions; reset 0. -/
  cycles : Nat := 0
  deriving DecidableEq, Repr

/-- What a lock has beside LOCK_STk (05 R125, R126). -/
structure LockSt where
  /-- Ticks held since the grant; reset 0. -/
  hold : Nat := 0
  /-- Waiting sectors, earliest request first; reset none. -/
  waiters : List Sector := []
  /-- The holder's first lka is to return ABANDONED; reset no. -/
  tell : Bool := false
  deriving DecidableEq, Repr

/-- Values that a slow-clock edge leaves latched for the boundary steps of the next edge (01 R25 steps 2 and 5): the event bits of the
sectors, the thermal level, and the halves of LDG_STORE (07 R179). -/
structure EdgeLatch where
  events : Vector Nat 4 := Vector.replicate 4 0
  level : Nat := 0
  storeH : Word := 0
  storeL : Word := 0
  deriving DecidableEq, Repr

/-- The frame scheduler (01). -/
structure Sched where
  /-- 01 R24: tick of the last frame start; reset 0. -/
  frameStart : Nat := 0
  /-- 01 R24: the first frame after boot has started; reset no. -/
  started : Bool := false
  /-- 01 R23: PERIOD waiting for the boundary; reset none. -/
  periodPend : Option Nat := none
  /-- 01 R23: SYNC mode in force; reset OFF. -/
  mode : Nat := 0
  /-- 01 R24: tick at which a SYNC edge in the window starts the frame; reset none. -/
  syncAt : Option Nat := none
  /-- 01 R24: SYNC is driven high for the first tick of the frame in OUT mode; reset low. -/
  syncOut : Bool := false
  /-- 06 R136: the tick in progress is the first of a frame, the pulse that CLKOUT can carry; reset no. -/
  pulse : Bool := false
  /-- 01 R25: what the last slow-clock edge left for the boundary steps to evaluate at the next; reset as the values it latches. -/
  latch : EdgeLatch := {}
  /-- The MODEL's own: 0 between slow-clock edges, 1 when what an edge begins with has been raised, 2 when all of it has, but the stale copies
  have yet to follow (notes/assumptions/1.md); reset 0. -/
  edge : Nat := 0
  /-- 02 R50: SCH_BACT in force; reset as the register. -/
  bact : Word := 0x10054
  /-- 02 R50: SCH_OVGR in force; reset as the register. -/
  ovgr : Word := 0x200
  deriving DecidableEq, Repr

/-! ## Power and clocks (06) -/

/-- State of a power domain, lowest first (06 R141, R144). -/
inductive DomState where
  | off | ret | on
  deriving DecidableEq, Repr

/-- A power domain: its state, the transition in progress and the pending request (06 R149, R150). -/
structure DomSt where
  state : DomState := .off
  moving : Option DomState := none
  pend : Option DomState := none
  deriving DecidableEq, Repr

/-- An entry of the post queue: register, the S-field bits written, their values, and the slow edges seen (06 R138, R140). -/
structure Post where
  addr : Nat
  mask : Word
  val : Word
  by_ : Accessor
  age : Nat
  deriving DecidableEq, Repr

/-- The fast crystal (06 R129); `starting` is a start under XKEEP that has not reached STANDBY. -/
inductive Xtal where
  | run | standby | stop | starting
  deriving DecidableEq, Repr

/-- A wake in progress: the stage that runs (0 regulator, 1 oscillator, 2 PLL, 3 memory, 4 logic; 06 R152), whether it goes on to wake the
core or is a lane's PLL start (R451), and the sectors whose banks the memory stage brings up (R145). -/
structure WakeSt where
  stage : Nat
  core : Bool
  secs : List Sector
  deriving DecidableEq, Repr

/-- Power manager and clocks. -/
structure Power where
  /-- 06 R141: the 22 domains in the order of `domIndex`; reset OFF. -/
  dom : Vector DomSt 22 := Vector.replicate 22 {}
  /-- 06 R140: post queue, oldest first, at most 8; reset empty. -/
  posts : List Post := []
  /-- 06 R129: fast crystal; reset STOP (19: it starts with the boot wake). -/
  xtal : Xtal := .stop
  /-- 06 R134: the PLL runs; reset no. -/
  pll : Bool := false
  /-- 06 R135: divider in force for each lane, MDIV code; reset 010b. -/
  mdiv : Vector Nat 4 := Vector.replicate 4 2
  /-- 06 R131: slow clock on the crystal; reset on the LPO. -/
  slowXtal : Bool := false
  /-- 06 R131: the slow crystal was lost and has not come back; reset no. -/
  slowLost : Bool := false
  /-- 06 R132: ticks run on the LPO since the loss; reset 0. -/
  lpoTicks : Nat := 0
  /-- 06 R143: W votes in force of each sector; reset from the reset values of PWR_REQ. -/
  votes : Vector Votes 4 := #v[⟨0x2AAAA, 2, 0⟩, ⟨0, 0, 0⟩, ⟨0, 0, 0⟩, ⟨0, 0, 0⟩]
  /-- 06 R152: wake in progress; reset none. -/
  wake : Option WakeSt := none
  /-- 06 R160: ticks since the wake in progress began; the model's own counter, reset 0. -/
  wakeAge : Nat := 0
  /-- 06 R145: sectors whose wake has completed its memory stage and whose segments have yet to drain; reset none. -/
  awake : List Sector := []
  /-- 06 R130: a wake was abandoned and no later one has started: anchors skip their segments; reset no. -/
  oscDead : Bool := false
  /-- 06 R130: a lane's PLL start was abandoned and waits for the next slow-clock edge; reset no. -/
  pllWait : Bool := false
  /-- 06 R155: CLK_TICK of the record in PWR_WAKESRC; reset none. -/
  wakeRecTick : Option Nat := none
  /-- 06 R154: ticks left of the raise hold of HOST, TWIN and NET, plus 1; 0 when not raised; reset 0. -/
  hold : Vector Nat 3 := Vector.replicate 3 0
  /-- 06 R147: ticks each lane has been in READY with its target ON; reset 0. -/
  readyTicks : Vector Nat 4 := Vector.replicate 4 0
  /-- 06 R147: the lane's domain is in auto-retention; reset no. -/
  autoRet : Vector Bool 4 := Vector.replicate 4 false
  deriving DecidableEq, Repr


/-- The deviations of a triplicated register's three copies from the value they were written with (13 R312). -/
structure Flip where
  addr : Nat
  a : Word
  b : Word
  c : Word
  deriving DecidableEq, Repr

/-! ## Memories (12) -/

/-- A violation-log request (12 R280, R281). -/
structure LogReq where
  cls : Nat
  sec : Nat
  idx : Nat
  code : Nat
  detail : Word
  tick : Nat
  deriving DecidableEq, Repr

/-- A flash operation (12 R287 to R289): 1 READ, 2 PROG, 3 ERASE, 4 APPEND, 5 RECENT, 6 calibration store, 7 reclaim, and the host port's
image operations (13 R309) 8 WRITE, 9 ERASE, 10 LOAD; its owner, granule, window offset (LOAD: the target sector) and granules; bookings or
steps done, whether the array works on a step, the bytes being written, the records a reclaim has yet to move, the result code, whether
only the completion is left, granules programmed well, whether the port's transaction waits for it, and whether the array's step is the
erase of a SUSPECT page before its use. -/
structure FlashOp where
  op : Nat
  sec : Sector
  gran : Nat
  hofs : Nat
  cnt : Nat
  step : Nat
  busy : Bool
  data : List Byte
  moves : List (List Byte)
  code : Nat
  finished : Bool
  good : Nat
  port : Bool
  erasing : Bool
  deriving DecidableEq, Repr

/-- Hamper, Thermos, the violation log, flash and OTP. -/
structure Mem where
  /-- 12 R274: Hamper, 65536 words by physical address; reset: zeroed at power-up of its bank (06 Table PWR-2). -/
  hamper : List (Nat × Word) := []
  /-- 12 R278: mirror flags of the 64 physical granules; reset 0. -/
  mirrored : BitVec 64 := 0
  /-- 12 R274: words stored with bit errors; reset none. -/
  upset : List (Nat × Upset) := []
  /-- 12 R275: write-back queue, at most 4 addresses; reset empty. -/
  writeBack : List Nat := []
  /-- 12 R279: Thermos, 512 words (the words that mirror registers are views, Machine/Memory.lean); reset 0 until AON_READY. -/
  thermos : List (Nat × Word) := []
  /-- 12 R281: log requests waiting, at most 4; reset empty. -/
  logq : List LogReq := []
  /-- 12 R282: flash, 512 KiB by byte address; erased bytes read FFh; reset: contents not stated, DESIGN CHOICE erased. -/
  flash : List (Nat × Byte) := []
  /-- 12 R282: erase count of each page, in its info granule; reset: not stated, DESIGN CHOICE 0. -/
  wear : List (Nat × Nat) := []
  /-- 12 R285: pages whose info granule fails its check; reset none. -/
  infoBad : List Nat := []
  /-- 12 R285: pages marked SUSPECT; reset none. -/
  suspect : List Nat := []
  /-- 12 R283: SEQ of the next journal record; reset 1, set at boot. -/
  jseq : Nat := 1
  /-- 12 R288: flash requests queued, oldest first, 3 with the active and the suspended one; reset empty. -/
  fqueue : List FlashOp := []
  /-- 12 R288: active flash operation; reset none. -/
  factive : Option FlashOp := none
  /-- 12 R288: suspended erase; reset none. -/
  fsusp : Option FlashOp := none
  /-- 12 R288: the READ or RECENT for which an erase is suspended has yet to become active; reset no. -/
  fwaits : Bool := false
  /-- 12 R284: journal pages to be reclaimed whose reclaims wait for a queue entry, in order; reset none. -/
  reclaims : List Nat := []
  /-- 12 R291: OTP, 2048 bytes, 00h until programmed; reset: contents not stated, DESIGN CHOICE unprogrammed. -/
  otp : List (Nat × Byte) := []
  /-- 12 R293: the OTP byte being programmed and the value ORed in; reset none. -/
  otpPend : Option (Nat × Byte) := none
  deriving DecidableEq, Repr

/-! ## Tangent (14) -/

/-- An entry of the Tangent message queue (04 R108, 14 R341): sender, words copied so far, copy complete. -/
structure TwMsg where
  id : Nat
  sec : Sector
  words : List Word
  ready : Bool
  deriving DecidableEq, Repr

/-- A Shadow record (14 R340). -/
structure ShdRec where
  lane : LaneId
  d : Nat
  flt : Bool
  clip : Bool
  seq : Nat
  value : Word
  deriving DecidableEq, Repr

/-- A link frame (14 Table TWN-1): TYPE, SECT, SEQ and payload. -/
structure LinkFrame where
  type : Nat
  sect : Sector
  seq : Nat
  words : List Word
  deriving DecidableEq, Repr

/-- An accepted MSG or MIR frame that waits for its copy (14 R336): the ACK of its header, the frame boundaries passed since, the words
already copied, and the mirror pass it belongs to. -/
structure LinkWait where
  frame : LinkFrame
  ack : Nat
  age : Nat := 0
  done : Nat := 0
  pass : Nat := 0
  deriving DecidableEq, Repr

/-- A mirror pass being received, every chunk of which so far has been written or waits for its copy (14 R338): its number, and whether its
LAST chunk has arrived. -/
structure MirrorPass where
  id : Nat
  last : Bool
  deriving DecidableEq, Repr

/-- What the partner's TRAIN told (14 Table TWN-3). -/
structure Partner where
  inc : Word := 0
  own : Bool := false
  pref : Bool := false
  serial : Nat := 0
  period : Nat := 0
  deriving DecidableEq, Repr

/-- A turn as driven (14 R319, R320): long preamble, its frames as bytes, cut off by a collision. -/
structure Turn where
  long : Bool := false
  frames : List (List Byte) := []
  cut : Bool := false
  deriving DecidableEq, Repr

/-- The Tangent unit. -/
structure Tangent where
  /-- 04 R108: message entries, oldest first, at most 8; reset empty. -/
  msgs : List TwMsg := []
  /-- 14 R340: Shadow records waiting to be sent, oldest first; reset none. -/
  shdOut : List ShdRec := []
  /-- 14 R340: received Shadow records that met no held sample, oldest first; reset none. -/
  shdIn : List ShdRec := []
  /-- 11 R268: TWCLM is to be released once every shared output is RELEASED; reset no. -/
  dropClaim : Bool := false
  /-- 14 R328: ticks since TWCLM was asserted; reset 0. -/
  claimAge : Nat := 0
  /-- 14 R328: the first probe found no contention; reset no. -/
  claimOk : Bool := false
  /-- 14 R328: ticks left before a claim may be attempted again; reset 0. -/
  claimWait : Nat := 0
  /-- 14 R328: the role to return to when the first probe finds contention; reset SOLO. -/
  prevRole : Nat := 0
  /-- 14 R326, R328: TWCLM as the partner was last seen to drive it, low; reset no. -/
  extLow : Bool := false
  /-- 14 R331: the device was chosen PRIMARY and has yet to claim; reset no. -/
  chosen : Bool := false
  /-- 14 R331: ticks since training started; reset 0. -/
  trainAge : Nat := 0
  /-- 14 R331: the partner's TRAIN has arrived; reset no. -/
  gotTrain : Bool := false
  /-- 14 R331: a TRAIN with ACKT = 1 has arrived; reset no. -/
  gotAck : Bool := false
  /-- 14 R331: a TRAIN is to be sent in the next turn; reset no. -/
  sendTrain : Bool := false
  /-- 14 R331: the partner as its TRAIN showed it; reset none. -/
  partner : Partner := {}
  /-- 14 R332: ticks left of the retry timer; reset not running. -/
  retry : Option Nat := none
  /-- 14 R324: SEQ of the next new frame; reset 0. -/
  nextSeq : Nat := 0
  /-- 14 R324: SEQ expected from the partner; reset 0. -/
  expect : Nat := 0
  /-- 14 R324: frames sent and not acknowledged, oldest first, at most 4; reset none. -/
  outst : List LinkFrame := []
  /-- 14 R323: heartbeats, Shadow frames and mirror chunks waiting for the window; reset none. -/
  ready : List LinkFrame := []
  /-- 14 R320, R324: a frame received is to be acknowledged by a turn; reset no. -/
  owesAck : Bool := false
  /-- 14 R324: the next turn resends from the oldest unacknowledged frame; reset no. -/
  resend : Bool := false
  /-- 14 R325: consecutive turns without acknowledgement progress; reset 0. -/
  stalled : Nat := 0
  /-- 14 R333: ticks since the last valid heartbeat or miss; reset 0. -/
  hbAge : Nat := 0
  /-- 14 R333: a heartbeat waits for its booking; reset no. -/
  hbDue : Bool := false
  /-- 14 R335: YIELD goes into the next heartbeat; reset no. -/
  yield : Bool := false
  /-- 14 R335: the release that makes the device STANDBY waits for the outputs; reset no. -/
  yielding : Bool := false
  /-- 14 R337: chunk addresses of the running mirror pass, and whether its first chunk has been copied; reset no pass. -/
  pass : Option (List Nat × Bool) := none
  /-- 14 R336: words of the heartbeat being assembled, as its bookings have made them; reset none. -/
  hbWords : List Word := []
  /-- 14 R338: FIRST chunks received, which number the passes; reset 0. -/
  passNo : Nat := 0
  /-- 14 R338: the passes being received, oldest first; reset none. -/
  passes : List MirrorPass := []
  /-- 14 R336: received frames waiting for their copies, at most 4; reset none. -/
  buf : List LinkWait := []
  /-- 14 Table TWN-3 W5: Shadow mismatches of each lane since the last heartbeat; reset 0. -/
  mismatch : Vector Nat 4 := Vector.replicate 4 0
  /-- 14 R342: violation codes logged this frame; reset none. -/
  logged : List Nat := []
  /-- 14 R320: the turn driven last; reset none. -/
  turn : Turn := {}
  deriving DecidableEq, Repr

/-! ## Network (15) -/

/-- Where a frame goes (15 R360, R367): destination MAC, tag of NET_VLAN, IPv4 destination and port under the IPv4 form. -/
structure NetDest where
  mac : List Byte
  tci : Option (BitVec 16)
  ip : Option (List Byte × List Byte)
  deriving DecidableEq, Repr

/-- A transmit descriptor (15 R350): the frame's sector, kind, word count, words copied so far, copy complete, on the wire; made by the
device, its SEQ, destination and blocks; `bytes` is the frame without FCS once it has entered the queue; ticks waited there. -/
structure TxDesc where
  id : Nat
  sec : Sector
  kind : Nat
  count : Nat
  words : List Word
  ready : Bool
  sending : Bool
  dev : Bool
  seq : Nat
  dest : NetDest
  blocks : Nat
  bytes : Option (List Byte)
  wait : Nat
  deriving DecidableEq, Repr

/-- A received command that waits for delivery (15 R364 to R366): sector, SEQ, payload, tagged, IPv4 form, TCI, source MAC, source IPv4
address and port, receive blocks, boundaries that marked its sector running since its arrival, and ring bytes copied so far (02 R42). -/
structure RxCmd where
  sec : Sector
  seq : Nat
  words : List Word
  tagged : Bool
  ip : Bool
  tci : Nat
  mac : List Byte
  src : List Byte
  port : List Byte
  blocks : Nat
  age : Nat
  done : Nat
  deriving DecidableEq, Repr

/-- The network unit. -/
structure Net where
  /-- 15 R350: transmit descriptors in queue order, at most 8; reset empty. -/
  tx : List TxDesc := []
  /-- 15 R350, R364: received commands waiting for delivery, oldest first, at most 8; reset none. -/
  rx : List RxCmd := []
  /-- 15 R357: next transmit SEQ of each sector, 2^32 once all are used; reset 0. -/
  txSeq : Vector Nat 4 := Vector.replicate 4 0
  /-- 15 R358: highest accepted command SEQ, H; reset 0. -/
  rxHigh : Vector Nat 4 := Vector.replicate 4 0
  /-- 15 R358: record of the SEQs H − 31 to H, bit j for H − j; reset empty. -/
  rxSeen : Vector (BitVec 32) 4 := Vector.replicate 4 0
  /-- 15 R359: staged NET_TXSEQHn; reset none. -/
  txStage : Vector (Option Nat) 4 := Vector.replicate 4 none
  /-- 15 R359: staged NET_RXSEQHn; reset none. -/
  rxStage : Vector (Option Nat) 4 := Vector.replicate 4 none
  /-- 15 R359: the transmit counter has been restored; reset no. -/
  txRestored : Vector Bool 4 := Vector.replicate 4 false
  /-- 15 R359: the receive window has been restored; reset no. -/
  rxRestored : Vector Bool 4 := Vector.replicate 4 false
  /-- 15 R368: IPv4 identification counter; reset 0 (spec/ states none, DESIGN CHOICE). -/
  ident : Nat := 0
  /-- 15 R363: frame boundaries counted toward TPER; reset 0. -/
  telCount : Nat := 0
  /-- 15 R363: a TELEM request is pending; reset no. -/
  telReq : Bool := false
  /-- 15 R371: sources NAKed with the tick of their latest NAK, at most 4; reset none. -/
  naks : List (List Byte × Nat) := []
  /-- 15 R370: log codes entered this frame; reset none. -/
  logged : List Nat := []
  /-- The number of the next descriptor; reset 0. -/
  nextId : Nat := 0
  deriving DecidableEq, Repr

/-! ## Curves and calibration (10) -/

/-- A filter profile's five words as latched at a conversion's start (09 R216). -/
structure ProfWords where
  w0 : Word := 0
  w1 : Word := 0
  w2 : Word := 0
  w3 : Word := 0
  w4 : Word := 0
  deriving DecidableEq, Repr

/-- A calibration request (10 R245, R246): its kind, lane, descriptor, the source mask, step, TIA and feedback of kinds 3 and 4, and what
its measurements gave so far, in 2^-16 LSB. `measuring` is true from a measurement's start to its end, `outs` are the outputs of its
conversions so far and `prof` the profile of the last of them (10 R243). -/
structure CalReq where
  sec : Sector
  fg : Bool
  kind : Nat
  lane : LaneId
  desc : Nat
  mask : Nat
  step : Nat
  tia : Nat
  fb : Nat
  store : Bool
  means : List Int
  measuring : Bool
  outs : List Word := []
  prof : Option ProfWords := none
  deriving DecidableEq, Repr

/-- The curve and calibration engines. -/
structure Cal where
  /-- 10 Table CAL-9: curve memory, 4096 words; reset 0, LASTV 20000h, coefficients restored at boot (R253). -/
  mem : List (Nat × Word) := []
  /-- 10 R238: staged words of parameter and system records by indirect address; reset none. -/
  staged : List (Nat × Option Word) := []
  /-- 10 R239: tick at which LASTV(d) was written since d's last commit; reset not written. -/
  lastv : List (Nat × Option Nat) := []
  /-- 10 R247: the active request; reset none. -/
  active : Option CalReq := none
  /-- 10 R245: queued requests, oldest first, at most 3; reset none. -/
  queue : List CalReq := []
  /-- 10 R252: a record waiting for the flash queue; reset none. -/
  pstore : Option (List Byte) := none
  deriving DecidableEq, Repr

/-! ## Ledger and thermal unit (07) -/

/-- A metering interval (07 R167): charge in 2^-24 pC, energy in 2^-24 µJ, charge times mV, and whether it is open, void (R170), and
opened while a zeroing tick that ended before it still waits for its charge. -/
structure Interval where
  opened : Bool := false
  void : Bool := false
  fresh : Bool := false
  q : Int := 0
  e : Int := 0
  qv : Int := 0
  deriving DecidableEq, Repr

/-- A zeroing tick that waits for its later neighbour (07 R164): its mean VSYS in mV, the sectors' weights over it (R165), whether CRIT
was in force (R170), and whether a post replaced STORE at the edge that ends it (R172). -/
structure ZeroTick where
  mv : Nat
  weights : Vector Nat 4
  crit : Bool
  posted : Bool
  deriving DecidableEq, Repr

/-- An interval closed at a boundary while the charge of a zeroing tick in it is not yet known (07 R164, R167): what it holds so far, its
declared charge, and the tier and frame that ran. -/
structure Closing where
  iv : Interval
  decl : Nat
  tier : Nat
  frame : Nat
  deriving DecidableEq, Repr

/-- The energy ledger and the thermal unit. -/
structure Ledger where
  /-- 07 R167: metering intervals; reset closed. -/
  iv : Vector Interval 4 := Vector.replicate 4 {}
  /-- 07 R162: energy below 1 µJ of ETOT, 2^-24 µJ; reset 0. -/
  etotFrac : Nat := 0
  /-- 07 R172: store below 1 mJ, 2^-24 µJ; reset 0 when Thermos is lost. -/
  storeFrac : Nat := 0
  /-- 07 R171: staged STOREH, held in Thermos 024h, 025h [17]; reset none when Thermos is lost. -/
  staged : Option Word := none
  /-- 07 R173: post age, ticks; reset 0. -/
  postAge : Nat := 0
  /-- 07 R164: offset subtracted from each tick, nV; reset 0. -/
  offset : Int := 0
  /-- 07 R164: charge of the last tick, 2^-24 pC; reset 0. -/
  lastQ : Int := 0
  /-- 07 R164: a zeroing tick waits for its later neighbour; reset none. -/
  zeroing : Option ZeroTick := none
  /-- 07 R167: intervals closed at the last boundary that wait for it; reset none. -/
  closing : Vector (Option Closing) 4 := Vector.replicate 4 none
  /-- 07 R165: the weights of the items of Table NRG-1 other than CORE, each shared among its payers, as the tick in progress began; reset
  none recorded. -/
  openW : List (Vector Nat 4) := []
  /-- 07 R165: CORE's weight outside the cycles of the engine, as the tick in progress began; reset 0. -/
  openCore : Vector Nat 4 := Vector.replicate 4 0
  /-- 07 R164: the tick in progress is a zeroing tick; reset no. -/
  zeroNow : Bool := false
  /-- 12 R293: the mean VSYS of the tick closed last was below 3.0 V; reset no. -/
  vsysLow : Bool := false
  /-- 07 R179: LDG_VAVG0 holds a value of a closed interval; reset no. -/
  vavgKnown : Bool := false
  /-- 07 R172: tick at whose edge the last tick was closed; reset none. -/
  closedAt : Option Nat := none
  /-- 07 R172: tick at whose edge a post has replaced STORE before that edge's tick was closed; reset none. -/
  postedAt : Option Nat := none
  /-- 07 R176: direction of the dwell run, up when true; reset none. -/
  run : Option Bool := none
  /-- 01 R25 step 2: thermal level latched at the last boundary; reset NORMAL. -/
  latched : Nat := 0
  deriving DecidableEq, Repr

/-! ## Lanes (09) -/

/-- A descriptor's four words as latched at a conversion's start (08 R200). -/
structure DescWords where
  w0 : Word := 0
  w1 : Word := 0
  w2 : Word := 0
  w3 : Word := 0
  deriving DecidableEq, Repr

/-- The filter chain of one conversion (09 R208 to R213): CIC integrators and combs, modulator samples taken in the CIC's present output,
CIC outputs made, settled CIC outputs newest first, FIR outputs made, FIR outputs in the average newest first; each with its CLIP. -/
structure Chain where
  integ : Vector Acc 4 := Vector.replicate 4 0
  comb : Vector Acc 4 := Vector.replicate 4 0
  taken : Nat := 0
  cics : Nat := 0
  taps : List (Word × Bool) := []
  firs : Nat := 0
  avg : List (Word × Bool) := []
  deriving DecidableEq, Repr

/-- A conversion in progress (09 R208, R224, R234): its descriptor and profile as latched, the list entry, the DIAG test (09 R230), RATIO
reference, descriptor fault at the start (08 R201), phase with the first phase's output, the chain, and what happened since the start:
modulator samples taken, overload or TIA limit, common mode out of the window, reference out of range. `cal` tells a conversion of a
calibration measurement (10 R243), `ofs` and `gcor` are the lane's trims as latched (10 R244), `input` is the normalised input x that the
front end presents, as numerator and denominator (08 R183), and `beyond` counts modulator samples with |x| beyond 1 (09 R210). -/
structure Conv where
  d : Nat
  desc : DescWords
  prof : ProfWords
  entry : Nat
  test : Option (Nat × Nat)
  ratio : Bool
  bad : Bool
  phase : Nat
  first : Option (Word × Bool)
  chain : Chain
  begun : Bool
  overload : Bool
  cm : Bool
  refBad : Bool
  cal : Bool := false
  ofs : Word := 0
  gcor : Word := 0
  input : Int × Int := (0, 1)
  beyond : Nat := 0
  deriving DecidableEq, Repr

/-- A sample with its header (09 R225). -/
structure Sample where
  value : Word
  header : Word
  deriving DecidableEq, Repr

/-- A lane command (04 Table INS-6). -/
inductive LaneCmd where
  | mode (m : Nat) (param : Word)
  | chan (entry d : Nat)
  | trig
  | swap
  deriving DecidableEq, Repr

/-- State of a list entry's thresholds (09 R229): 0 NORMAL, 1 HIGH, 2 LOW; the run and the state it counts toward; and whether the entry,
in conversion when lchan gave it another descriptor, takes that one, and NORMAL, at its next chain reset. -/
structure ThrState where
  at_ : Nat := 0
  run : Nat := 0
  toward : Nat := 0
  retake : Bool := false
  deriving DecidableEq, Repr

/-- A Shadow sample held for its partner (09 R231): the full LANE_SEQ and the sample. -/
structure HeldSample where
  d : Nat
  seq : Nat
  sample : Sample
  deriving DecidableEq, Repr

/-- A lane. -/
structure LaneSt where
  /-- 09 R217: mode in effect (0 OFF to 11 SHADOW); reset OFF. -/
  mode : Nat := 0
  /-- 09 R231: base mode of SHADOW; reset 0. -/
  base : Nat := 0
  /-- 09 R217: parameter of the mode; reset 0. -/
  param : Word := 0
  /-- 09 R208, R232: the descriptor in conversion or last converted; reset 0. -/
  desc : Nat := 0
  /-- 04 R102: command queue, oldest first, at most 4; reset empty. -/
  queue : List LaneCmd := []
  /-- 09 R227: result FIFO, oldest first, at most 16; reset empty. -/
  fifo : List Sample := []
  /-- 09 R228: stream buffer, oldest first, at most 64; reset empty. -/
  stream : List Sample := []
  /-- 09 R212: FIR bank B active; reset bank A. -/
  bankB : Bool := false
  /-- 09 R212: a swap is pending; reset no. -/
  swap : Bool := false
  /-- 09 R219: SINGLE, BURST or SHADOW waits for its start; reset no. -/
  armed : Bool := false
  /-- 09 R234: a chain reset is to come at the next edge; reset no. -/
  due : Bool := false
  /-- 09 R221: the mode has taken a modulator sample since its start; reset no. -/
  ran : Bool := false
  /-- 09 R221: at a sample boundary, where a command that waited for one takes effect; reset no. -/
  atBoundary : Bool := false
  /-- 08 R206: conversion in progress; reset none. -/
  conv : Option Conv := none
  /-- 08 R195: descriptor whose gating window is open; reset none. -/
  window : Option DescWords := none
  /-- 09 R217: samples (SCAN: passes) since the mode began, or samples left of a burst; reset 0. -/
  count : Nat := 0
  /-- 09 R223: scan entry; reset 0. -/
  entry : Nat := 0
  /-- 09 R223: samples delivered of the entry; reset 0. -/
  spe : Nat := 0
  /-- 09 R230: DIAG tests to come, by code and source; reset none. -/
  tests : List (Nat × Nat) := []
  /-- 09 R229: threshold state of each list entry; reset NORMAL. -/
  thr : Vector ThrState 16 := Vector.replicate 16 {}
  /-- 09 R231: Shadow samples held, oldest first; reset none. -/
  held : List HeldSample := []
  /-- 09 R232: host command held for the next prologue; reset none. -/
  hcmd : Option Word := none
  /-- 09 R232: sector 0 commanded the lane after the host did; reset no. -/
  hcmdAfter : Bool := false
  /-- 05 R124: the lane goes to READY at its next sample boundary; reset no. -/
  ltStop : Bool := false
  deriving DecidableEq, Repr

/-! ## Front end (08) -/

/-- What the front end holds beside its registers. -/
structure Afe where
  /-- 08 R196, 10 R249: words held for IEXC0 to IEXC3, VEXC, TIA0, TIA1; reset none. -/
  held : Vector (Option Word) 7 := Vector.replicate 7 none
  /-- 08 R200, 09 R216, R229: staged words of descriptors, filter profiles and threshold sets by address; reset none. -/
  staged : List (Nat × Option Word) := []
  /-- 08 R187: the loop pins whose nodes TIA0 and TIA1 hold at their virtual ground; reset none. -/
  virt : Vector (List (Fin 4)) 2 := Vector.replicate 2 []
  /-- 08 R185: the shunts of LP0 to LP3 are closed; reset all. -/
  shunts : Vector Bool 4 := Vector.replicate 4 true
  /-- 10 R244: TRIM of IEXC0 to IEXC3 in force since the source's last enable or gating window; reset 0. -/
  trim : Vector Word 4 := Vector.replicate 4 0
  /-- 10 R244: GT of TIA0 and TIA1 in force since the stage's last connect; reset 0. -/
  gt : Vector Word 2 := Vector.replicate 2 0
  deriving DecidableEq, Repr

/-! ## Field outputs (11) -/

/-- What a field switch has beside OUT_FSWn. -/
structure FswSt where
  /-- 11 R269: the pending command, ON when true; reset none. -/
  pend : Option Bool := none
  /-- 11 R256: operations taken while the FSW domain is not ON, in order (0 OFF, 1 ON, 2 CLEAR); reset none. -/
  wait : List Nat := []
  /-- 11 R257: ticks the switch has stayed in ON; reset 0. -/
  onTicks : Nat := 0
  /-- 11 Table OUT-8: ticks left of the retry interval; reset 0. -/
  retryLeft : Nat := 0
  /-- 11 R260: consecutive samples of an open switch at or above the backfeed threshold; reset 0. -/
  high : Nat := 0
  /-- 11 R260: consecutive samples below it; reset 0. -/
  low : Nat := 0
  /-- 11 R260: consecutive samples of a backfeed that is not expected; reset 0. -/
  odd : Nat := 0
  /-- 11 R268: the TURNOFF in progress ends in RELEASED; reset no. -/
  releasing : Bool := false
  /-- 11 R267: a shared switch is RELEASED; reset no (SHF resets to 0). -/
  rel : Bool := false
  /-- 11 R256, R258: the load current in mA that the switch would carry, unlimited, as it was last told; reset 0. -/
  load : Nat := 0
  /-- 11 R258: slow-clock edges since limiting began, the AON timer of 1.0 ms; reset 0. -/
  limTicks : Nat := 0
  /-- 11 Table OUT-1: the switch has reached 165 °C and is not known to be below 145 °C; reset no. -/
  hot : Bool := false
  deriving DecidableEq, Repr

/-- A command for an analog output that waits for its domain (11 R263): a control word, a code, or a SAFE disposition. -/
inductive AoWait where
  | ctl (v : Word)
  | code (v : Word)
  | safe
  deriving DecidableEq, Repr

/-- What an analog output has beside its registers. -/
structure AoutSt where
  /-- 11 R264: the code held during a range change; reset none. -/
  held : Option Word := none
  /-- 11 R269: the pending control word; reset none. -/
  ctl : Option Word := none
  /-- 11 R263: commands taken while the AOUT domain is not ON, in order; reset none. -/
  wait : List AoWait := []
  /-- 11 R263: the state that the 64 µs ramp in progress ends in (Table OUT-10); reset none. -/
  ramp : Option Nat := none
  /-- 11 R267: the code in force comes from aout or a SAFE disposition; reset no. -/
  coded : Bool := false
  /-- 11 R265: consecutive samples that disagree; reset 0. -/
  differ : Nat := 0
  /-- 11 R265: tick of the last change of code or state; reset 0. -/
  since : Nat := 0
  /-- 11 R267: a shared output is RELEASED though its domain is not ON; reset no. -/
  rel : Bool := false
  deriving DecidableEq, Repr

/-- The outputs. -/
structure Outputs where
  fsw : Vector FswSt 4 := Vector.replicate 4 {}
  ao : Vector AoutSt 2 := Vector.replicate 2 {}
  /-- 11 R267: shared outputs drive: the role is PRIMARY or SOLO and TWCLM has been held for BRK ticks; reset no. -/
  drive : Bool := false
  deriving DecidableEq, Repr

/-! ## Reset, boot and pins (16, 17) -/

/-- The boot policy in force (12 Table MEM-9). -/
structure Policy where
  cmacreq : Nat := 0
  ksel : Nat := 0
  slotord : Nat := 0
  hostnold : Bool := false
  dbgoff : Bool := false
  otplock : Bool := false
  wdtlim : Nat := 0
  deriving DecidableEq, Repr

/-- The boot sequencer. -/
structure Boot where
  /-- 16 Table RST-3: phase B0 to B6; 7 from the first frame boundary on; reset 0. -/
  phase : Nat := 0
  /-- 16 Table RST-7: AON has powered up and checked Thermos; reset no. -/
  aon : Bool := false
  /-- 16 R375: cause of the reset that boot serves (12 Table MEM-2); reset 1, POR. -/
  cause : Nat := 1
  /-- 16 R380: TEST was sampled high: the device stays in B1; reset no. -/
  held : Bool := false
  /-- 12 R292: the boot policy read at B3; reset unprogrammed. -/
  policy : Policy := {}
  /-- 16 R385: slot (1 A, 2 B) and target sector of the guest load in progress; reset none. -/
  guest : Option (Nat × Sector) := none
  deriving DecidableEq, Repr

/-- The pins that AON drives or samples (17). -/
structure Pins where
  /-- 17 R397: function in force at each GP pad; reset IN. -/
  gpFunc : Vector Nat 8 := Vector.replicate 8 0
  /-- 17 R397: level the keeper holds in a parked phase; reset low. -/
  gpKeep : Vector Bool 8 := Vector.replicate 8 false
  /-- 17 R394: VDDIO is present; reset yes. -/
  vddio : Bool := true
  deriving DecidableEq, Repr

/-! ## Host port (13) -/

/-- The transaction the port holds (13 R301): opcode, target, header fields, the host's words or image bytes, words served, answer words,
the most severe code, COPY, whether an IMGLD stands in the flash queue (R309), and whether RDSTRM has removed its entries (R308). -/
structure HostTxn where
  op : Nat := 0
  sect : Sector := 0
  addr : BitVec 16 := 0
  cnt : Nat := 0
  words : List Word := []
  bytes : List Byte := []
  served : Nat := 0
  answer : List Word := []
  code : Nat := 0
  copy : Bool := false
  inFlash : Bool := false
  taken : Bool := false
  deriving DecidableEq, Repr

/-- The host port. -/
structure HostPort where
  /-- 13 R296: HCS# is low; reset high. -/
  selected : Bool := false
  /-- 13 R296: SPI mode 3 in the frame, by HSCK at the falling edge; reset mode 0. -/
  mode3 : Bool := false
  /-- 13 R301: 0 IDLE, 1 PENDING, 2 DONE; reset IDLE. -/
  state : Nat := 0
  /-- 13 R301: the transaction, meaningful unless IDLE; reset none. -/
  txn : HostTxn := {}
  /-- 13 R301: ticks the answer has been DONE; reset 0. -/
  doneTicks : Nat := 0
  /-- 13 R303: no sector was RUNNING at acceptance: direct service; reset no. -/
  direct : Bool := false
  /-- 13 R300: the status code driven in the frame last received; reset 0. -/
  ack : Nat := 0
  /-- 13 R300: what HIO1 carried, byte by byte from byte 0, in the frame last received; in quad width, what followed the request alone;
  reset none. -/
  line : List Byte := []
  /-- 13 R305: the bytes of the answer last driven, ACRC last; reset none. -/
  out : List Byte := []
  /-- 13 R310: ticks since a header whose CRC matched; reset 0. -/
  silence : Nat := 0
  /-- 13 R311: ticks until SYS_KEY disarms; reset 0. -/
  keyTicks : Nat := 0
  /-- 13 R315: violation codes logged this frame; reset none. -/
  logged : List Nat := []
  deriving DecidableEq, Repr


/-- The state of the block. -/
structure State where
  /-- The commands that wait, first in first out (the row's cut); reset empty. -/
  pending : List Instr := []
  /-- Registers that differ from their POR value, by resolved address (18 R417); reset none. -/
  regs : List (Nat × Word) := []
  /-- 06 R139: the core-domain copies of S registers, as refreshed at the last slow edge; reset as `regs`. -/
  stale : List (Nat × Word) := []
  /-- 13 R312: deviations of the three copies of T fields from their majority; reset none. -/
  flips : List Flip := []
  /-- 06 R133: CLK_TICK, 36 bits; reset 0. -/
  tick : Nat := 0
  eng : Engine := {}
  sch : Sched := {}
  secs : Vector SectorSt 4 := Vector.replicate 4 {}
  locks : Vector LockSt 16 := Vector.replicate 16 {}
  pwr : Power := {}
  mem : Mem := {}
  tw : Tangent := {}
  net : Net := {}
  ldg : Ledger := {}
  lanes : Vector LaneSt 4 := Vector.replicate 4 {}
  afe : Afe := {}
  cal : Cal := {}
  out : Outputs := {}
  boot : Boot := {}
  pins : Pins := {}
  host : HostPort := {}
  /-- The MODEL's own counter of free values drawn (not the spec's); reset 0, DESIGN CHOICE. -/
  free : Nat := 0
  deriving DecidableEq, Repr

/-- The machine right after the POR of a first power-up begins (16 R374): every register at its POR value, nothing listed in memory,
sector 0 holding every grant (05 Tables SEC-10 to SEC-12), no command waiting. -/
def State.reset : State :=
  { secs := #v[{ grant := 0x3FFFF, grant2 := 0x1FFF, desc := 0x1000 }, {}, {}, {}] }



end Sys2Proof.Machine
end

