-- ==== Sys2Proof/Machine/Store.lean ====
section
/-! DEFINITION. Sparse memories in one canonical form: address and value pairs, addresses strictly rising, no entry equal to what an
unlisted address reads as. -/

namespace Sys2Proof.Machine

variable {α : Type} [DecidableEq α]

/-- What address `a` holds; `dflt` where it is not listed. -/
def storeRead (dflt : Nat → α) : List (Nat × α) → Nat → α
  | [], a => dflt a
  | (k, v) :: m, a => if a = k then v else storeRead dflt m a

/-- The entry of a cell: none where the value is what an unlisted address reads as. -/
def storeCell (dflt : Nat → α) (a : Nat) (v : α) : List (Nat × α) :=
  if v = dflt a then [] else [(a, v)]

/-- Write one cell, keeping the canonical form. -/
def storeWrite (dflt : Nat → α) : List (Nat × α) → Nat → α → List (Nat × α)
  | [], a, v => storeCell dflt a v
  | (k, x) :: m, a, v =>
    if a < k then storeCell dflt a v ++ (k, x) :: m
    else if a = k then storeCell dflt a v ++ m
    else (k, x) :: storeWrite dflt m a v

/-- The canonical form, from a lowest admissible address on. -/
def storeWfFrom (dflt : Nat → α) : Nat → List (Nat × α) → Bool
  | _, [] => true
  | lo, (k, v) :: m => decide (lo ≤ k) && decide (v ≠ dflt k) && storeWfFrom dflt (k + 1) m

/-- The canonical form. -/
def storeWf (dflt : Nat → α) (m : List (Nat × α)) : Bool := storeWfFrom dflt 0 m

/-- Write a run of consecutive cells. -/
def storeWriteRun (dflt : Nat → α) (m : List (Nat × α)) (a : Nat) : List α → List (Nat × α)
  | [] => m
  | v :: vs => storeWriteRun dflt (storeWrite dflt m a v) (a + 1) vs

/-- Read a run of consecutive cells. -/
def storeReadRun (dflt : Nat → α) (m : List (Nat × α)) (a : Nat) : Nat → List α
  | 0 => []
  | n + 1 => storeRead dflt m a :: storeReadRun dflt m (a + 1) n

end Sys2Proof.Machine
end

