-- ==== Sys2Proof/Machine/Ops.lean ====
section
/-! DEFINITION. The named operations every meaning is built from: register fields, sectors, events, the violation log, grants, domain
states, and reads and writes of Hamper. -/

namespace Sys2Proof.Machine

/-! ## Register fields -/

def Fld.width (f : Fld) : Nat := f.hi + 1 - f.lo

def Fld.max (f : Fld) : Nat := 2 ^ f.width - 1

/-- The bits of the register word that the field occupies. -/
def Fld.mask (f : Fld) : Word := BitVec.ofNat 18 (f.max * 2 ^ f.lo)

/-- The field's value in a word. -/
def Fld.of (f : Fld) (w : Word) : Nat := w.toNat / 2 ^ f.lo % 2 ^ f.width

/-- A word with the field replaced; a value too wide is cut to the field. -/
def Fld.into (f : Fld) (w : Word) (v : Nat) : Word :=
  (w &&& ~~~ f.mask) ||| BitVec.ofNat 18 (v % 2 ^ f.width * 2 ^ f.lo)

/-- The word held at a resolved register address (13 R312: the majority of the copies of a T field). -/
def State.word (s : State) (a : Nat) : Word := storeRead regPor s.regs a

/-- Copies of the bits `m` of register `a` set alike (13 R312: a write sets all three copies). -/
def agreeCopies (a : Nat) (m : Word) (l : List Flip) : List Flip :=
  l.filterMap fun f =>
    if f.addr ≠ a then some f else
    let g : Flip := { f with a := f.a &&& ~~~ m, b := f.b &&& ~~~ m, c := f.c &&& ~~~ m }
    if g.a ||| g.b ||| g.c = 0 then none else some g

/-- Write the bits `m` of the register at `a`. -/
def State.setBits (s : State) (a : Nat) (m v : Word) : State :=
  { s with regs := storeWrite regPor s.regs a ((s.word a &&& ~~~ m) ||| (v &&& m)), flips := agreeCopies a m s.flips }

/-- Write a whole register word. -/
def State.setWord (s : State) (a : Nat) (v : Word) : State := s.setBits a (BitVec.allOnes 18) v

/-- A field's value. -/
def State.get (s : State) (f : Fld) : Nat := f.of (s.word f.addr)

/-- A field written. -/
def State.put (s : State) (f : Fld) (v : Nat) : State := s.setBits f.addr f.mask (f.into 0 v)

/-- A one-bit field read as a truth value. -/
def State.isSet (s : State) (f : Fld) : Bool := decide (s.get f ≠ 0)

/-- A flag set: every bit of the field 1. -/
def State.setFlag (s : State) (f : Fld) : State := s.put f f.max

/-- A counter incremented, saturating at the field's largest value. -/
def State.bump (s : State) (f : Fld) : State := s.put f (Nat.min (s.get f + 1) f.max)

/-- A truth value as a bit. -/
def bit (b : Bool) : Nat := if b then 1 else 0

/-! ## Sectors -/

/-- Change what a sector has. -/
def State.onSec (s : State) (n : Sector) (f : SectorSt → SectorSt) : State := { s with secs := s.secs.set n (f s.secs[n]) }

/-- Change what a lock has. -/
def State.onLock (s : State) (k : Fin 16) (f : LockSt → LockSt) : State := { s with locks := s.locks.set k (f s.locks[k]) }

/-- The register of sector n that a write of word `a` reaches holds STATE 00b STOPPED, 01b RUNNING, 10b RESETTING (05 R117). -/
def State.running (s : State) (n : Sector) : Bool := decide (s.get (F.SEC_CTL_STATE n) = 1)

def State.stopped (s : State) (n : Sector) : Bool := decide (s.get (F.SEC_CTL_STATE n) = 0)

/-- Set an event bit of a sector (03 R74); event 31 is undefined in sector 0 and never sets. -/
def State.raise (s : State) (n : Sector) (e : Nat) : State :=
  if n = 0 ∧ e = 31 then s
  else if e < 16 then s.setBits (A.SEC_EVL n) (BitVec.ofNat 18 (2 ^ e)) (BitVec.allOnes 18)
  else if e < 32 then s.setBits (A.SEC_EVH n) (BitVec.ofNat 18 (2 ^ (e - 16))) (BitVec.allOnes 18)
  else s

/-- An event bit of a sector. -/
def State.event (s : State) (n : Sector) (e : Nat) : Bool :=
  if e < 16 then (s.word (A.SEC_EVL n)).getLsbD e else if e < 32 then (s.word (A.SEC_EVH n)).getLsbD (e - 16) else false

/-- Clear an event bit (04 R99). -/
def State.dropEvent (s : State) (n : Sector) (e : Nat) : State :=
  if e < 16 then s.setBits (A.SEC_EVL n) (BitVec.ofNat 18 (2 ^ e)) 0
  else if e < 32 then s.setBits (A.SEC_EVH n) (BitVec.ofNat 18 (2 ^ (e - 16))) 0
  else s

/-- The 32 event bits of a sector as a number. -/
def State.events (s : State) (n : Sector) : Nat := s.get (F.SEC_EVL_EV n) + 65536 * s.get (F.SEC_EVH_EV n)

/-- All four sectors in order. -/
def sectors : List Sector := [0, 1, 2, 3]

/-- Set an event in every sector of a list that satisfies `p`. -/
def State.raiseWhere (s : State) (p : Sector → Bool) (e : Nat) : State :=
  sectors.foldl (fun s n => if p n then s.raise n e else s) s

/-- The twin role changes; TROLE sets in every sector (14 R330). -/
def State.setRole (s : State) (r : Nat) : State :=
  if s.get F.TW_STAT_ROLE = r then s else (s.put F.TW_STAT_ROLE r).raiseWhere (fun _ => true) 21

/-! ## Segments (02 Table CON-2) -/

/-- A segment is skipped, without being late: its QSEG leaves the declaration (06 R130, 07 R168). -/
def State.dropCharge (s : State) (n : Sector) (q : Nat) : State := s.onSec n fun x => { x with qCancelled := x.qCancelled + q }

/-- The tier entry of a frame and tier in a sector's image. -/
def State.tierOf (s : State) (n : Sector) (frame tier : Nat) : Option TierEntry :=
  match s.secs[n].image with
  | some im => im.entries.find? fun e => decide (e.frame = frame ∧ e.tier = tier)
  | none => none

/-- A segment record. -/
def State.segOf (s : State) (n : Sector) (frame tier idx : Nat) : Option SegRec :=
  match s.tierOf n frame tier with
  | some e => e.segs[idx]?
  | none => none

/-! ## Grants (05 R113, R116) -/

/-- Lane granted to the sector. -/
def State.hasLane (s : State) (n : Sector) (i : LaneId) : Bool := s.secs[n].grant.getLsbD i

/-- Descriptor granted to the sector. -/
def State.hasDesc (s : State) (n : Sector) (d : Nat) : Bool :=
  let w := s.secs[n].desc.toNat
  decide (w % 64 ≤ d ∧ d < w % 64 + w / 64 % 128)

/-- GP pin granted to the sector. -/
def State.hasGp (s : State) (n : Sector) (g : Nat) : Bool := decide (g < 8) && s.secs[n].grant2.getLsbD (5 + g)

/-- The unit that lock k guards (01 Table FRM-4) granted to the sector. -/
def State.hasUnit (s : State) (n : Sector) (k : Nat) : Bool :=
  let g := s.secs[n].grant
  let g2 := s.secs[n].grant2
  if k < 4 then g.getLsbD (4 + k) else if k = 4 then g.getLsbD 8 else if k < 7 then g.getLsbD (k + 4)
  else if k = 7 then g.getLsbD 11 else if k < 10 then g.getLsbD (k + 4) else if k < 14 then g.getLsbD (k + 4)
  else if k = 14 then g2.getLsbD 0 else g2.getLsbD 1

/-- The sector granted a lane (05 Table SEC-1: at most one), if any. -/
def State.laneOwner (s : State) (i : LaneId) : Option Sector := sectors.find? fun n => s.hasLane n i

/-- The sector holds lock k (05 R125). -/
def State.holds (s : State) (n : Sector) (k : Nat) : Bool :=
  decide (s.get (F.LOCK_ST_HELD k) = 1 ∧ s.get (F.LOCK_ST_HOLDER k) = n.val)

/-- A command suppressed for want of a grant (04 R90). -/
def State.noGrant (s : State) (n : Sector) : State := (s.setFlag (F.SEQ_XST_NOGR n)).bump (F.SEQ_XST_XCNT n)

/-- A register access suppressed under R90: a program's sets REGDN and counts; the host's is answered DENIED. -/
def State.refused (s : State) (acc : Accessor) : State :=
  match acc with
  | .prog n => (s.setFlag (F.SEQ_XST_REGDN n)).bump (F.SEQ_XST_XCNT n)
  | .host _ => s

/-- A command to a locked unit from a sector that does not hold its lock (01 R22, 05 LOCK_NH: four bits per sector). -/
def State.noLock (s : State) (n : Sector) : State := s.bump ⟨A.LOCK_NH, 4 * n + 3, 4 * n⟩

/-! ## The violation log's request queue (12 R281) -/

/-- The writable bits of a register, taken from a written word; reserved bits read 0 (00 R13). -/
def writableBits (a : Nat) (v : Word) : Word :=
  match regAt a with
  | some (r, _) => v &&& r.maskOf fun f => decide (f.acc = .rw)
  | none => 0

/-- Thermos word as stored. -/
def State.thermosWord (s : State) (a : Nat) : Word := storeRead (fun _ => 0) s.mem.thermos a

/-- Thermos word written. -/
def State.setThermos (s : State) (a : Nat) (v : Word) : State :=
  { s with mem := { s.mem with thermos := storeWrite (fun _ => 0) s.mem.thermos a v } }

/-- The log's drop counter, 040h [2:0] (12 Table MEM-1). -/
def fLogDrop : Fld := ⟨0x40, 2, 0⟩

/-- A log request enters the queue of 4, or finds it full and is dropped (12 R281). -/
def State.logRequest (s : State) (r : LogReq) : State :=
  if s.mem.logq.length < 4 then
    { s with mem := { s.mem with logq := s.mem.logq ++ [r] } }
  else
    let w := s.thermosWord 0x40
    s.setThermos 0x40 (fLogDrop.into w (Nat.min (fLogDrop.of w + 1) 7))

/-- Request a violation-log entry (12 R280, R281). -/
def State.log (s : State) (cls sec idx code : Nat) (detail : Nat) : State :=
  s.logRequest ⟨cls, sec, idx, code, BitVec.ofNat 18 detail, s.tick⟩

/-- The order of two requests of one cycle: by class, then by sector (12 R281). -/
def LogReq.before (a b : LogReq) : Bool := a.cls < b.cls || (a.cls == b.cls && a.sec < b.sec)

/-- A request takes its place among those of its cycle, behind those that rank as it does. -/
def placeLog : List LogReq → LogReq → List LogReq
  | [], r => [r]
  | x :: rest, r => if r.before x then r :: x :: rest else x :: placeLog rest r

/-- What one cycle does, its log requests entering the queue in the order of their cycle, behind those that wait (12 R281;
notes/assumptions/70.md). -/
def State.inOneCycle (s : State) (f : State → State) : State :=
  let t := f { s with mem := { s.mem with logq := [] } }
  (t.mem.logq.foldl placeLog []).foldl State.logRequest { t with mem := { t.mem with logq := s.mem.logq } }

/-! ## Domains -/

/-- A domain's place in `Power.dom`. -/
def domIndex : Dom → Fin 22
  | .core => 0 | .imem => 1
  | .hb k => ⟨2 + k, by omega⟩
  | .lane i => ⟨10 + i, by omega⟩
  | .exc => 14 | .tia => 15 | .aout => 16 | .fsw => 17 | .net => 18 | .twin => 19 | .flash => 20 | .host => 21

/-- A domain's state (06 R141). -/
def State.dom (s : State) (d : Dom) : DomSt := s.pwr.dom[domIndex d]

def State.isOn (s : State) (d : Dom) : Bool := decide ((s.dom d).state = .on)

/-- A domain is ON and no transition of it runs: PWR_STAT shows 11b (06 R151). -/
def State.settledOn (s : State) (d : Dom) : Bool := s.isOn d && (s.dom d).moving.isNone

/-! ## Ticks (06 R133) -/

/-- The tick `k` ticks after tick `a`: CLK_TICK wraps after 2^36. -/
def tickAfter (a k : Nat) : Nat := (a + k) % 2 ^ 36

/-- Ticks from tick `a` to tick `b`. -/
def ticksFrom (a b : Nat) : Nat := (b + 2 ^ 36 - a % 2 ^ 36) % 2 ^ 36

/-- Tick `a` lies before tick `b`, by less than half the counter's range. -/
def tickBefore (a b : Nat) : Bool := decide (0 < ticksFrom a b ∧ ticksFrom a b < 2 ^ 35)

/-! ## Free values -/

/-- The next free value's number; the counter advances. -/
def State.fresh (s : State) : Nat × State := (s.free, { s with free := s.free + 1 })

/-! ## Hamper (12 R274 to R276) -/

/-- The sector whose window holds a granule; sector 0 where no window does (12 R276). -/
def State.granuleSector (s : State) (g : Nat) : Nat :=
  match sectors.find? fun (n : Sector) => decide (s.get (F.SEC_WIN_GBASE n) ≤ g ∧ g < s.get (F.SEC_WIN_GBASE n) + s.get (F.SEC_WIN_GLEN n)) with
  | some n => n
  | none => 0

def State.hamperWord (s : State) (p : Nat) : Word := storeRead (fun _ => 0) s.mem.hamper p

/-- Bit errors of a Hamper word. -/
def State.hamperUpset (s : State) (p : Nat) : Upset := storeRead (fun _ => .none) s.mem.upset p

/-- A word found corrected by a read (12 R275). -/
def State.hamperCorrected (s : State) (p : Nat) : State :=
  let s := ((s.setFlag F.MEM_HECC_SBE).bump F.MEM_HECC_SCNT).put F.MEM_HEADDR_ADDR p
  if p ∈ s.mem.writeBack then s
  else if s.mem.writeBack.length < 4 then { s with mem := { s.mem with writeBack := s.mem.writeBack ++ [p] } }
  else s.setFlag F.MEM_HECC_WBOVF

/-- A word found uncorrectable by a read (12 R276). -/
def State.hamperDamaged (s : State) (p : Nat) : State :=
  (((s.setFlag F.MEM_HECC_DED).bump F.MEM_HECC_DCNT).put F.MEM_HEADDR_ADDR p).log 5 (s.granuleSector (p / 1024)) (p / 8192) 1 p

/-- What a physical Hamper word reads as, and what the read tells (12 R274 to R276); a free value is drawn where the code promises none. -/
def State.peekHamper (s : State) (p : Nat) : Word × ReadNote × State :=
  match s.hamperUpset p with
  | .none => (s.hamperWord p, .clean, s)
  | .single => (s.hamperWord p, .corrected p, s)
  | .double => (0, .damaged p, s)
  | .beyond =>
    let (k, s) := s.fresh
    match Config.beyondEccKind k with
    | 0 => (Config.beyondEccWord k, .corrected p, s)
    | 1 => (0, .damaged p, s)
    | 2 => (Config.beyondEccWord k, .clean, s)

/-- A write of a physical Hamper word; fresh check bits clear its damage (12 R276). -/
def State.writeHamper (s : State) (p : Nat) (v : Word) : State :=
  { s with mem := { s.mem with
      hamper := storeWrite (fun _ => 0) s.mem.hamper p v
      upset := storeWrite (fun _ => .none) s.mem.upset p .none } }

/-- The physical word at a window offset of a sector, when the access is in window: below the window's length and in a bank that is ON
(03 R72, 05 R114). -/
def State.inWindow (s : State) (n : Sector) (ea : Nat) : Option Nat :=
  let p := s.get (F.SEC_WIN_GBASE n) * 1024 + ea
  if h : ea < 1024 * s.get (F.SEC_WIN_GLEN n) ∧ p < 65536 then
    if s.isOn (.hb ⟨p / 8192, by omega⟩) then some p else none
  else none

/-- A run of `len` words from physical address `p` touches bank k. -/
def touchesBank (k p len : Nat) : Bool := decide (0 < len ∧ p < 8192 * k + 8192 ∧ 8192 * k < p + len)

/-- Physical address of a window offset. -/
def State.physOf (s : State) (n : Sector) (ofs : Nat) : Nat := s.get (F.SEC_WIN_GBASE n) * 1024 + ofs

/-- Every bank that a run of `len` words from physical address `p` touches is ON. -/
def State.banksOn (s : State) (p len : Nat) : Bool :=
  (List.finRange 8).all fun k => !touchesBank k p len || s.isOn (.hb k)

/-- An access not in window (03 R73). -/
def State.windowMiss (s : State) (n : Sector) : State := (s.bump (F.SEQ_FLAG_WINCNT n)).setFlag (F.SEQ_FLAG_WIN n)

/-- What a read leaves behind. -/
def State.noteRead (s : State) (n : Sector) : ReadNote → State
  | .miss => s.windowMiss n
  | .clean => s
  | .corrected p => s.hamperCorrected p
  | .damaged p => s.hamperDamaged p

/-- A read of a physical Hamper word and what it leaves behind. -/
def State.readHamper (s : State) (p : Nat) : Word × State :=
  let r := s.peekHamper p
  (r.1, r.2.2.noteRead 0 r.2.1)

/-- What a program's read at a window offset gives and tells (03 R72, R73). -/
def State.peekAt (s : State) (n : Sector) (ea : Word) : Word × ReadNote × State :=
  match s.inWindow n ea.toNat with
  | some p => s.peekHamper p
  | none => (0, .miss, s)

/-- A program's read at a window offset (03 R73). -/
def State.loadAt (s : State) (n : Sector) (ea : Word) : Word × State :=
  let r := s.peekAt n ea
  (r.1, r.2.2.noteRead n r.2.1)

/-- A program's write at a window offset (03 R73). -/
def State.storeAt (s : State) (n : Sector) (ea v : Word) : State :=
  match s.inWindow n ea.toNat with
  | some p => s.writeHamper p v
  | none => s.windowMiss n

/-! ## Curve memory (10 Table CAL-9) -/

/-- Reset content: LASTV 20000h, every other word 0. -/
def curveReset (a : Nat) : Word := if 0x100 ≤ a ∧ a < 0x140 then 0x20000 else 0

def State.curveWord (s : State) (a : Nat) : Word := storeRead curveReset s.cal.mem a

def State.setCurve (s : State) (a : Nat) (v : Word) : State :=
  { s with cal := { s.cal with mem := storeWrite curveReset s.cal.mem a v } }

/-- LASTV(d) is written (10 R235); its tick is kept for the freshness of a cold junction (R239). -/
def State.setLastv (s : State) (d : Nat) (v : Word) : State :=
  let s := s.setCurve (0x100 + d) v
  { s with cal := { s.cal with lastv := storeWrite (fun _ => none) s.cal.lastv d (some s.tick) } }

/-- Ticks of NAKs older than the 3,277 of 15 R371 are dropped likewise. -/
def State.agedNaks (s : State) : State :=
  { s with net := { s.net with naks := s.net.naks.filter fun e => decide (ticksFrom e.2 s.tick < 3277) } }

/-- Ticks of LASTV older than the 65,536 of R239 are dropped, so that the tick counter's wrap makes none of them fresh again. -/
def State.agedLastv (s : State) : State :=
  { s with cal := { s.cal with lastv := s.cal.lastv.filter fun e => e.2.any fun t => decide (ticksFrom t s.tick ≤ 65536) } }

end Sys2Proof.Machine
end

