-- ==== Sys2Proof/Machine/Breach.lean ====
section
/-! DEFINITION. Breaches (02 R45 to R48): what every breach leaves, and the breach action. -/

namespace Sys2Proof.Machine

/-- The running segment as it goes on. -/
def State.setSeg (s : State) (g : RunSeg) : State := { s with eng := { s.eng with cur := some g } }

/-- The bit of SCH_BSTn a breach kind sets (02 Table CON-16). -/
def breachFlag (n : Nat) (kind : Nat) : Fld :=
  if kind = 3 then F.SCH_BST_POSTQ n else if kind = 4 then F.SCH_BST_EMPTYPOP n
  else if kind = 5 then F.SCH_BST_LANEQ n else if kind = 6 then F.SCH_BST_ENERGY n
  else F.SCH_BST_OVERRUN n

/-- The breach detail word (02 Table CON-10). -/
def breachDetail (kind tier frame low : Nat) : Nat := kind * 32768 + tier % 4 * 8192 + frame % 8 * 1024 + low % 1024

/-- The action a breach of sector n takes: 0 CONT, 1 TOT0, 2 SECRST (02 R46, R47, Table CON-9). -/
def State.breachAction (s : State) (n : Sector) : Nat :=
  let w := s.sch.bact.toNat
  let act := w / 2 ^ (2 * n.val) % 4
  if s.get (F.SCH_BST_CAPLEFT n) ≠ 0 ∧ w / 2 ^ (8 + n.val) % 2 = 1 then 2 else Nat.min act 2

/-- A sector reset is called for: its cause waits until the reset begins (05 R119), and no further bundle of the sector issues. A sector
that is not RUNNING takes none (05 Table SEC-2). -/
def State.callReset (s : State) (n : Sector) (cause : Nat) : State :=
  if s.running n ∧ s.secs[n].rstWait.isNone then
    let s := s.onSec n fun x => { x with rstWait := some cause }
    match s.eng.cur with
    | some g => if g.sec = n then s.setSeg { g with kill := true } else s
    | none => s
  else s

/-- Load CAPLEFT with T0N, 0 acting as 1 (02 Table CON-9, CON-13). -/
def State.capTier (s : State) (n : Sector) : State :=
  (s.put (F.SCH_BST_CAPLEFT n) (Nat.max 1 (s.sch.bact.toNat / 4096 % 64))).setFlag (F.SCH_BST_CAP n)

/-- A breach of sector n: its bit and count, the BREACH event in sector 0 and in the sector, a log entry for the first of its kind in the
frame, and the action of the frame's first breach (02 R45 to R48). -/
def State.breach (s : State) (n : Sector) (kind tier frame low : Nat) : State :=
  let s := ((s.setFlag (breachFlag n kind)).bump (F.SCH_BST_BCNT n)).raise 0 0
  let s := if n = 0 then s else s.raise n 0
  let s := if kind ∈ s.secs[n].logged then s else
    (s.log 0 n 0 kind (breachDetail kind tier frame low)).onSec n fun x => { x with logged := kind :: x.logged }
  if s.secs[n].acted then s else
  let act := s.breachAction n
  let s := s.onSec n fun x => { x with acted := true }
  if act = 0 then s else if act = 1 then s.capTier n else s.callReset n 1

/-- A breach inside the running segment, with its tier, frame and segment index (02 Table CON-10). -/
def State.breachHere (s : State) (kind low : Nat) : State :=
  match s.eng.cur with
  | some g => s.breach g.sec kind g.tier g.frame (g.idx * 64 + low)
  | none => s

end Sys2Proof.Machine
end

