-- ==== Sys2Proof/Machine/Crypto.lean ====
section
/-! DEFINITION. Checks over bytes: the CRCs of spec/ (02 Table CON-5, 13 R298, 14 R319) and AES-128 with CMAC (02 R35, 12 R291). -/

namespace Sys2Proof.Machine

/-! ## Bytes and words -/

/-- Big-endian number of a byte list. -/
def beNat : List Byte → Nat
  | [] => 0
  | b :: l => b.toNat * 256 ^ l.length + beNat l

/-- `k` bytes of a number, most significant first. -/
def beBytes : Nat → Nat → List Byte
  | 0, _ => []
  | k + 1, v => BitVec.ofNat 8 (v / 256 ^ k) :: beBytes k v

/-- A word in three bytes, most significant first (00 R7). -/
def wordBytes (w : Word) : List Byte := beBytes 3 w.toNat

/-- Words taken from bytes three at a time, bits [17:0] (00 R7); fewer than three bytes left over give no word. -/
def bytesWords : List Byte → List Word
  | a :: b :: c :: l => BitVec.ofNat 18 (a.toNat * 65536 + b.toNat * 256 + c.toNat) :: bytesWords l
  | _ => []

/-! ## CRCs -/

/-- One bit of a reflected CRC-32. -/
def crc32Bit (c : BitVec 32) : BitVec 32 := if c.getLsbD 0 then (c >>> 1) ^^^ 0xEDB88320 else c >>> 1

/-- One byte of a reflected CRC-32. -/
def crc32Byte (c : BitVec 32) (b : Byte) : BitVec 32 := Nat.repeat crc32Bit 8 (c ^^^ b.setWidth 32)

/-- CRC-32 of Table CON-5. -/
def crc32 (l : List Byte) : BitVec 32 := ~~~ l.foldl crc32Byte 0xFFFFFFFF

/-- One bit of a CRC that is not reflected. -/
def crcBit {w : Nat} (poly : BitVec w) (c : BitVec w) : BitVec w := if c.msb then (c <<< 1) ^^^ poly else c <<< 1

/-- A CRC that is not reflected, over bytes. -/
def crcMsb {w : Nat} (poly init : BitVec w) (l : List Byte) : BitVec w :=
  l.foldl (fun c b => Nat.repeat (crcBit poly) 8 (c ^^^ (BitVec.ofNat w (b.toNat * 2 ^ (w - 8))))) init

/-! ## AES-128 -/

/-- Multiplication by x in the field of AES. -/
def xtime (a : Byte) : Byte := if a.msb then (a <<< 1) ^^^ 0x1B else a <<< 1

/-- Product of two bytes in the field of AES, `k` bits of `b` to go. -/
def gfMul : Nat → Byte → Byte → Byte
  | 0, _, _ => 0
  | k + 1, a, b => (if b.getLsbD 0 then a else 0) ^^^ gfMul k (xtime a) (b >>> 1)

/-- a^254, the inverse, or 0 of 0. -/
def gfInv (a : Byte) : Byte :=
  let sq (x : Byte) := gfMul 8 x x
  let a2 := sq a
  let a4 := sq a2
  let a8 := sq a4
  let a16 := sq a8
  let a32 := sq a16
  let a64 := sq a32
  let a128 := sq a64
  [a4, a8, a16, a32, a64, a128].foldl (gfMul 8) a2

/-- The S-box: the inverse through the affine map. -/
def sbox (a : Byte) : Byte :=
  let b := gfInv a
  b ^^^ b.rotateLeft 1 ^^^ b.rotateLeft 2 ^^^ b.rotateLeft 3 ^^^ b.rotateLeft 4 ^^^ 0x63

def xorBytes (a b : List Byte) : List Byte := List.zipWith (· ^^^ ·) a b

/-- The next round key, with its round constant. -/
def nextKey (k : List Byte) (rcon : Byte) : List Byte :=
  let g (i : Nat) := k.getD i 0
  let t := [sbox (g 13) ^^^ rcon, sbox (g 14), sbox (g 15), sbox (g 12)]
  let w0 := xorBytes (k.take 4) t
  let w1 := xorBytes ((k.drop 4).take 4) w0
  let w2 := xorBytes ((k.drop 8).take 4) w1
  let w3 := xorBytes (k.drop 12) w2
  w0 ++ w1 ++ w2 ++ w3

/-- SubBytes and ShiftRows on a block in column order. -/
def subShift (b : List Byte) : List Byte :=
  [0, 5, 10, 15, 4, 9, 14, 3, 8, 13, 2, 7, 12, 1, 6, 11].map fun i => sbox (b.getD i 0)

/-- MixColumns. -/
def mixColumns : List Byte → List Byte
  | a :: b :: c :: d :: l =>
    let x := a ^^^ b ^^^ c ^^^ d
    (a ^^^ x ^^^ xtime (a ^^^ b)) :: (b ^^^ x ^^^ xtime (b ^^^ c)) :: (c ^^^ x ^^^ xtime (c ^^^ d)) :: (d ^^^ x ^^^ xtime (d ^^^ a)) ::
      mixColumns l
  | _ => []

/-- Rounds with `k` of them to go, the last without MixColumns. -/
def aesRounds : Nat → List Byte → Byte → List Byte → List Byte
  | 0, _, _, b => b
  | k + 1, key, rcon, b =>
    let key := nextKey key rcon
    let b := subShift b
    aesRounds k key (xtime rcon) (xorBytes (if k = 0 then b else mixColumns b) key)

/-- AES-128 of one block. -/
def aes128 (key b : List Byte) : List Byte := aesRounds 10 key 1 (xorBytes b key)

/-- Double a block for the CMAC subkeys. -/
def cmacDouble (b : List Byte) : List Byte :=
  let v : BitVec 128 := BitVec.ofNat 128 (beNat b)
  beBytes 16 (if v.msb then (v <<< 1) ^^^ 0x87 else v <<< 1).toNat

/-- CMAC over the blocks that are left, from a chaining value. -/
def cmacBlocks (key k1 : List Byte) : Nat → List Byte → List Byte → List Byte
  | 0, c, _ => c
  | n + 1, c, m =>
    if m.length < 16 then
      let pad := m ++ 0x80 :: List.replicate (15 - m.length) 0
      aes128 key (xorBytes c (xorBytes pad (cmacDouble k1)))
    else if m.length = 16 then aes128 key (xorBytes c (xorBytes m k1))
    else cmacBlocks key k1 n (aes128 key (xorBytes c (m.take 16))) (m.drop 16)

/-- AES-128-CMAC, 128 bits (02 R35). -/
def aesCmac (key m : List Byte) : List Byte :=
  let zero : List Byte := List.replicate 16 0
  cmacBlocks key (cmacDouble (aes128 key zero)) (m.length / 16 + 1) zero m

end Sys2Proof.Machine
end

