-- ==== Sys2Proof/Machine/NetFrame.lean ====
section
/-! DEFINITION. Frames of the field port: addresses, lengths, buffers, tags and the transmit queue's entry (15 R349 to R360, R368); the
words of sends in progress (04 R109); the keys and the serial in OTP (12 R291). -/

namespace Sys2Proof.Machine

/-! ## OTP bytes (12 Table MEM-8) -/

def State.otpByte (s : State) (a : Nat) : Byte := storeRead (fun _ => 0) s.mem.otp a

/-- KLOCK bit k. -/
def State.keyLocked (s : State) (k : Nat) : Bool := (s.otpByte 0x40).getLsbD k

/-- The key of slot k. -/
def State.otpKey (s : State) (k : Nat) : List Byte := storeReadRun (fun _ => 0) s.mem.otp (16 * k) 16

/-- The serial: bytes 04Ah to 04Fh. -/
def State.serial (s : State) : Nat := beNat (storeReadRun (fun _ => 0) s.mem.otp 0x4A 6)

/-- MEM_KCVk as it reads: KVALID, and the first two bytes of AES-128 of a zero block under the key. -/
def State.kcvWord (s : State) (k : Nat) : Word :=
  if s.keyLocked k then BitVec.ofNat 18 (0x10000 + beNat ((aes128 (s.otpKey k) (List.replicate 16 0)).take 2)) else 0

/-! ## Addresses (15 R349) -/

/-- The own MAC address. -/
def State.mac (s : State) : List Byte := BitVec.ofNat 8 (s.serial / 2 ^ 40 / 4 * 4 + 2) :: beBytes 5 s.serial

/-- The 16-bit fields of consecutive registers as bytes. -/
def State.regBytes (s : State) (fs : List Fld) : List Byte := (fs.map fun f => beBytes 2 (s.get f)).flatten

def State.ownIp (s : State) : List Byte := s.regBytes [F.NET_IPH_IP, F.NET_IPL_IP]

def State.gateway (s : State) : List Byte := s.regBytes [F.NET_GW_GW 0, F.NET_GW_GW 1, F.NET_GW_GW 2]

/-- The tag a sent frame carries (15 R353). -/
def State.vlanTag (s : State) : Option (BitVec 16) :=
  if s.isSet F.NET_VLAN_VEN then some (BitVec.ofNat 16 (s.get F.NET_VLAN_TCI)) else none

/-- Where a frame of sector n goes, from the registers in force (15 R354, R360, R368). -/
def State.netDest (s : State) (n : Sector) : NetDest :=
  let w := F.NET_DST_DST n
  if s.isSet F.NET_CTL_IPEN then ⟨s.gateway, s.vlanTag, some (s.regBytes [w 3, w 4], s.regBytes [w 5])⟩
  else ⟨s.regBytes [w 0, w 1, w 2], s.vlanTag, none⟩

/-! ## Buffers (15 R350) -/

/-- L: length without FCS of a Yardo frame of `nw` words, padded to 60 bytes. -/
def yardoLength (d : NetDest) (nw : Nat) : Nat :=
  Nat.max 60 (14 + (if d.tci.isSome then 4 else 0) + (if d.ip.isSome then 28 else 0) + 16 + 3 * nw)

def blocksFor (len : Nat) : Nat := (len + 127) / 128

/-- A transmit descriptor and `k` blocks are free. -/
def State.txRoom (s : State) (k : Nat) : Bool :=
  decide (s.net.tx.length < 8) && decide ((s.net.tx.map (·.blocks)).sum + k ≤ 64)

/-- Frames that count against a sector's NTX share: its programs' and its lines' (05 R122, R124). -/
def State.netShareUsed (s : State) (n : Sector) : Nat :=
  (s.net.tx.filter fun d => decide (d.sec = n ∧ d.kind < 2) && (!d.dev || decide (d.kind = 1))).length

/-- A transmit buffer is free for a frame that counts against the share. -/
def State.txFree (s : State) (n : Sector) (nw : Nat) : Bool :=
  s.txRoom (blocksFor (yardoLength (s.netDest n) nw)) &&
    decide (s.netShareUsed n < Nat.min (s.get (F.SEC_QOS_NTX n)) 8)

def State.onNet (s : State) (f : Net → Net) : State := { s with net := f s.net }

/-- The next SEQ of a sector, 2^32 once all are used (15 R357). -/
def State.takeSeq (s : State) (n : Sector) : Nat × State :=
  let q := s.net.txSeq[n]
  (q, s.onNet fun x => { x with txSeq := x.txSeq.set n (Nat.min (q + 1) (2 ^ 32)) })

/-- A descriptor taken for a frame of sector n, with its SEQ; answers the descriptor's number. -/
def State.newFrame (s : State) (n : Sector) (kind count : Nat) (words : List Word) (dev : Bool) (d : NetDest) : Nat × State :=
  let (q, s) := s.takeSeq n
  let x : TxDesc := ⟨s.net.nextId, n, kind, count, words, false, false, dev, q, d, blocksFor (yardoLength d count), none, 0⟩
  (x.id, s.onNet fun m => { m with tx := m.tx ++ [x], nextId := m.nextId + 1 })

/-! ## Frames as bytes (15 Table NET-2, R355, R368) -/

/-- Sum of 16-bit words, most significant byte first. -/
def sum16 : List Byte → Nat
  | a :: b :: l => a.toNat * 256 + b.toNat + sum16 l
  | [a] => a.toNat * 256
  | [] => 0

def fold16 (x : Nat) : Nat := x / 65536 + x % 65536

/-- The Internet checksum. -/
def checksum (l : List Byte) : Nat := 65535 - fold16 (fold16 (fold16 (sum16 l)))

/-- AREQn. -/
def State.tagged (s : State) (n : Nat) : Bool := s.isSet ⟨A.NET_AUTH, 8 + n, 8 + n⟩

/-- KSLn. -/
def State.netSlot (s : State) (n : Nat) : Nat := s.get ⟨A.NET_AUTH, 2 * n + 1, 2 * n⟩

/-- SEQLOSTn. -/
def State.seqLost (s : State) (n : Nat) : Bool := s.isSet ⟨A.NET_STAT, 10 + n, 10 + n⟩

/-- Sector n's key slot is empty though its frames are to be tagged (15 R356). -/
def State.keyMissing (s : State) (n : Nat) : Bool := s.tagged n && !s.keyLocked (s.netSlot n)

/-- VER to payload. -/
def yardoHead (n kind : Nat) (dev : Bool) (seq : Nat) (words : List Word) : List Byte :=
  [1, BitVec.ofNat 8 (32 * kind + 8 * n + 4 * bit dev)] ++ beBytes 2 words.length ++ beBytes 4 seq ++ (words.map wordBytes).flatten

/-- The tag over a head: CMAC of the own address and the head, its first 8 bytes. -/
def State.netTag (s : State) (n : Nat) (head : List Byte) : List Byte := (aesCmac (s.otpKey (s.netSlot n)) (s.mac ++ head)).take 8

def padTo (k : Nat) (l : List Byte) : List Byte := l ++ List.replicate (k - l.length) 0

/-- An Ethernet frame without FCS. -/
def State.ether (s : State) (mac : List Byte) (tci : Option (BitVec 16)) (etype : Nat) (body : List Byte) : List Byte :=
  padTo 60 (mac ++ s.mac ++ (match tci with | some t => [0x81, 0] ++ beBytes 2 t.toNat | none => []) ++ beBytes 2 etype ++ body)

/-- An IPv4 header for `len` bytes of payload. -/
def State.ipHeader (s : State) (proto len ident : Nat) (dst : List Byte) : List Byte :=
  let a := [0x45, BitVec.ofNat 8 (s.get F.NET_IPT_TOS)] ++ beBytes 2 (20 + len) ++ beBytes 2 ident ++
    [0x40, 0, BitVec.ofNat 8 (s.get F.NET_IPT_TTL), BitVec.ofNat 8 proto]
  let b := s.ownIp ++ dst
  a ++ beBytes 2 (checksum (a ++ [0, 0] ++ b)) ++ b

/-- The frame of a descriptor, and the identification counter after it. -/
def State.buildFrame (s : State) (x : TxDesc) : List Byte × State :=
  let head := yardoHead x.sec x.kind x.dev x.seq x.words
  let body := head ++ (if s.tagged x.sec then s.netTag x.sec head else List.replicate 8 0)
  match x.dest.ip with
  | none => (s.ether x.dest.mac x.dest.tci (s.get F.NET_ETYPE_ETYPE) body, s)
  | some (ip, port) =>
    let udp := beBytes 2 (s.get F.NET_UPORT_PORT) ++ port ++ beBytes 2 (8 + body.length) ++ [0, 0] ++ body
    (s.ether x.dest.mac x.dest.tci 0x0800 (s.ipHeader 17 udp.length s.net.ident ip ++ udp),
      s.onNet fun m => { m with ident := (m.ident + 1) % 65536 })

/-- The frame of descriptor `k` enters the transmit queue, or is discarded there with KEYX (15 R356, R357, R359, R360). -/
def State.enterQueue (s : State) (k : Nat) : State :=
  match s.net.tx.find? fun x => decide (x.id = k) with
  | none => s
  | some x =>
    let rest := s.net.tx.filter fun y => decide (y.id ≠ k)
    if s.seqLost x.sec || s.keyMissing x.sec || decide (2 ^ 32 ≤ x.seq) then
      (s.onNet fun m => { m with tx := rest }).bump F.NET_ERRC_KEYX
    else
      let (b, s) := s.buildFrame x
      s.onNet fun m => { m with tx := rest ++ [{ x with ready := true, bytes := some b, wait := 0 }] }

/-- A device-generated frame of sector n is built and queued; none where no descriptor or blocks are free. -/
def State.deviceFrame (s : State) (n : Sector) (kind : Nat) (words : List Word) (d : NetDest) : Option State :=
  if s.txRoom (blocksFor (yardoLength d words.length)) then
    let (k, s) := s.newFrame n kind words.length words true d
    some (s.enterQueue k)
  else none

/-! ## Words of sends in progress (04 R109) -/

/-- A word copied joins its frame or message. -/
def State.addSendWord (s : State) (toNet : Bool) (item : Nat) (v : Word) : State :=
  if toNet then
    s.onNet fun m => { m with tx := m.tx.map fun d => if d.id = item then { d with words := d.words ++ [v] } else d }
  else
    { s with tw := { s.tw with msgs := s.tw.msgs.map fun d => if d.id = item then { d with words := d.words ++ [v] } else d } }

/-- The last word has been copied: the frame enters the transmit queue, the message may go. -/
def State.finishSend (s : State) (toNet : Bool) (item : Nat) : State :=
  if toNet then s.enterQueue item
  else { s with tw := { s.tw with msgs := s.tw.msgs.map fun d => if d.id = item then { d with ready := true } else d } }

end Sys2Proof.Machine
end

