-- ==== Sys2Proof/Machine/Flags.lean ====
section
/-! DEFINITION. The bounding functions of the instruction reference (04 Notation) and the clamps that set SAT and AOV (04 R88): exact
integers in, a word and whether the clamp changed the value out. -/

namespace Sys2Proof.Machine

/-- An integer clamped to the signed range of `n` bits. -/
def clampTo (n : Nat) (x : Int) : Int :=
  if x < -(2 ^ (n - 1)) then -(2 ^ (n - 1)) else if x > 2 ^ (n - 1) - 1 then 2 ^ (n - 1) - 1 else x

/-- sat18 with whether it changed the value: SAT (04 R88). -/
def sat18 (x : Int) : Word × Bool := (BitVec.ofInt 18 (clampTo 18 x), decide (clampTo 18 x ≠ x))

/-- sat36 with whether it changed the value: SAT (04 R88). -/
def sat36 (x : Int) : DWord × Bool := (BitVec.ofInt 36 (clampTo 36 x), decide (clampTo 36 x ≠ x))

/-- sat48 with whether it changed the value: AOV (04 R88). -/
def sat48 (x : Int) : Acc × Bool := (BitVec.ofInt 48 (clampTo 48 x), decide (clampTo 48 x ≠ x))

/-- floor(x / 2^k), exact. -/
def floorShift (x : Int) (k : Nat) : Int := x.fdiv (2 ^ k)

/-- x / 2^k rounded to the nearest integer, halves up. -/
def roundShift (x : Int) (k : Nat) : Int := if k = 0 then x else floorShift (x + 2 ^ (k - 1)) k

/-- The upper word of a double word. -/
def dwordHigh (v : DWord) : Word := v.extractLsb' 18 18

/-- The lower word of a double word. -/
def dwordLow (v : DWord) : Word := v.extractLsb' 0 18

end Sys2Proof.Machine
end

