-- ==== Sys2Proof/Machine/Operands.lean ====
section
/-! DEFINITION. Operand forms of the Iznath syllables: register reads, the b operand with its immediates, the fields of a syllable and of a
bundle. -/

namespace Sys2Proof.Machine

/-! ## Register files (03 R52) -/

/-- w0 reads as 0. -/
def SectorSt.rdW (x : SectorSt) (r : Fin 16) : Word := if r = 0 then 0 else x.w[r]

/-- Writes to w0 are discarded. -/
def SectorSt.wrW (x : SectorSt) (r : Fin 16) (v : Word) : SectorSt := if r = 0 then x else { x with w := x.w.set r v }

/-- p0 reads as 1. -/
def SectorSt.rdP (x : SectorSt) (r : Fin 8) : Bool := if r = 0 then true else x.p[r]

/-- Writes to p0 are discarded. -/
def SectorSt.wrP (x : SectorSt) (r : Fin 8) (v : Bool) : SectorSt := if r = 0 then x else { x with p := x.p.set r v }

def SectorSt.rdA (x : SectorSt) (r : Fin 4) : Acc := x.a[r]

def SectorSt.wrA (x : SectorSt) (r : Fin 4) (v : Acc) : SectorSt := { x with a := x.a.set r v }

/-- An accumulator index uses bits [1:0] of its field (04 R85). -/
def accIx (f : Fin 16) : Fin 4 := ⟨f % 4, by omega⟩

/-- A predicate index uses bits [2:0] of its field (04 R86). -/
def predIx (f : Fin 16) : Fin 8 := ⟨f % 8, by omega⟩

/-- Bit 3 of a field: the complement mark (04 R86, R91). -/
def bit3 (f : Fin 16) : Bool := decide (8 ≤ f.val)

/-- A lane named by bits [1:0] of a field (04 R101). -/
def laneIx (f : Fin 16) : LaneId := ⟨f % 4, by omega⟩

/-! ## The b operand (04 Notation, R59, R94) -/

/-- Register form in slot A: wB, or the long immediate where the opcode takes one. -/
def bReg (x : SectorSt) (b : Fin 16) (imm : Option Word) : Word := imm.getD (x.rdW b)

/-- Immediate form in slot A: imm4 zero-extended, or the long immediate. -/
def bImm (b : Fin 16) (imm : Option Word) : Word := imm.getD (BitVec.ofNat 18 b)

/-- Register form in slot K: wB, or bits [17:0] of the long immediate (03 R60). -/
def kReg (x : SectorSt) (b : Fin 16) : LongImm → Word
  | .none => x.rdW b
  | .imm18 v => v
  | .imm36 v => v.extractLsb' 0 18

/-- The B of movia: unsigned imm4, an 18-bit or a 36-bit immediate read as signed (04 R94). -/
def moviaB (b : Fin 16) : LongImm → Int
  | .none => b
  | .imm18 v => v.toInt
  | .imm36 v => v.toInt

/-- A shift count in slot K: imm4, or bits [5:0] of the long immediate (04 R94). -/
def kCount (b : Fin 16) : LongImm → Nat
  | .none => b
  | .imm18 v => v.toNat % 64
  | .imm36 v => v.toNat % 64

/-! ## Syllables and bundles (03 Tables IZN-2, IZN-3) -/

/-- OP of a syllable. -/
def sylOp (v : Word) : Nat := (v.extractLsb' 12 6).toNat

def sylD (v : Word) : Fin 16 := (v.extractLsb' 8 4).toFin

def sylA (v : Word) : Fin 16 := (v.extractLsb' 4 4).toFin

def sylB (v : Word) : Fin 16 := (v.extractLsb' 0 4).toFin

/-- The head of a bundle and its slots. -/
structure BundleParts where
  pred : Fin 8
  neg : Bool
  pair : Fin 4
  endBit : Bool
  slotA : Word
  slotK : Word
  slotM : Word
  slotX : Word
  deriving DecidableEq, Repr

/-- A bundle taken apart (03 Table IZN-2). -/
def splitBundle (v : Bundle) : BundleParts :=
  { pred := (v.extractLsb' 77 3).toFin
    neg := v.getLsbD 76
    pair := (v.extractLsb' 74 2).toFin
    endBit := v.getLsbD 73
    slotA := v.extractLsb' 54 18
    slotK := v.extractLsb' 36 18
    slotM := v.extractLsb' 18 18
    slotX := v.extractLsb' 0 18 }

/-- The immediate slot A receives (03 R59): under PAIR 01b, slot M. -/
def BundleParts.immA (p : BundleParts) : Option Word := if p.pair = 1 then some p.slotM else none

/-- The immediate slot K receives: under PAIR 10b slot X, under 11b M and X with M the upper half. -/
def BundleParts.immK (p : BundleParts) : LongImm :=
  if p.pair = 2 then .imm18 p.slotX else if p.pair = 3 then .imm36 (p.slotM ++ p.slotX) else .none

/-- Slot M carries a syllable and no immediate. -/
def BundleParts.mIsSyl (p : BundleParts) : Bool := decide (p.pair = 0 ∨ p.pair = 2)

/-- Slot X carries a syllable and no immediate. -/
def BundleParts.xIsSyl (p : BundleParts) : Bool := decide (p.pair = 0 ∨ p.pair = 1)

/-- A signed 12-bit bundle offset added to an own address, modulo 8192 (04 R97). -/
def branchTarget (own : Nat) (off : BitVec 12) : Nat := ((own : Int) + off.toInt).emod 8192 |>.toNat

/-- s12 of a branch syllable: {d, a, b} (04 R98). -/
def sylOffset (v : Word) : BitVec 12 := v.extractLsb' 0 12

end Sys2Proof.Machine
end

