-- ==== Sys2Proof/Machine/Issue.lean ====
section
/-! DEFINITION. The issue cycle (03 R61 to R65, 04 R89, R109): results in flight, send copies, the passing of cycles, and a syllable
issued alone by the running segment. -/

namespace Sys2Proof.Machine

/-! ## Results in flight -/

def State.addFlight (s : State) (f : Flight) : State := { s with eng := { s.eng with flights := s.eng.flights ++ [f] } }

/-- A word result with latency `l`; `sat` tells that its clamp sets SAT. -/
def State.toW (s : State) (n : Sector) (l : Nat) (d : Fin 16) (v : Word) (sat : Bool) : State := s.addFlight ⟨n, l, .w d v, sat⟩

/-- An accumulator result with latency `l`. -/
def State.toA (s : State) (n : Sector) (l : Nat) (d : Fin 4) (v : Acc) : State := s.addFlight ⟨n, l, .a d v, false⟩

/-- A predicate result with latency `l`, complemented when d[3] = 1 (04 R86). -/
def State.toP (s : State) (n : Sector) (l : Nat) (d : Fin 16) (v : Bool) : State :=
  s.addFlight ⟨n, l, .p (predIx d) (v != bit3 d), false⟩

/-- A value to be added to an accumulator in the operation's last cycle (03 R63). -/
def State.toAccum (s : State) (n : Sector) (d : Fin 4) (v : Int) : State := s.addFlight ⟨n, 3, .accum d v, false⟩

/-- Write one completed result. `start` holds the register files at the start of the cycle (03 R63); an accumulating result that clamps
sets AOV, a word result that clamped sets SAT (04 R88). -/
def landFlight (start : Vector SectorSt 4) (s : State) (f : Flight) : State :=
  match f.dest with
  | .w d v => let s := s.onSec f.sec (·.wrW d v); if f.sat then s.setFlag (F.SEQ_FLAG_SAT f.sec) else s
  | .a d v => s.onSec f.sec (·.wrA d v)
  | .wLoad d v k => (s.noteRead f.sec k).onSec f.sec (·.wrW d v)
  | .aLoad d v hi lo => ((s.noteRead f.sec hi).noteRead f.sec lo).onSec f.sec (·.wrA d v)
  | .p d v => s.onSec f.sec (·.wrP d v)
  | .curve d v k =>
    let s := (s.setLastv k v).onSec f.sec (·.wrW d v)
    if f.sat then s.setFlag (F.SEQ_FLAG_SAT f.sec) else s
  | .accum d v =>
    let r := sat48 ((start[f.sec].rdA d).toInt + v)
    let s := s.onSec f.sec (·.wrA d r.1)
    if r.2 then s.setFlag (F.SEQ_FLAG_AOV f.sec) else s

/-- The end of a cycle: results due are written in issue order, so the later operation takes effect (03 R65); the others come one cycle
nearer. -/
def State.endCycle (s : State) : State :=
  let due := s.eng.flights.filter fun f => decide (f.rem ≤ 1)
  let rest := (s.eng.flights.filter fun f => decide (1 < f.rem)).map fun f => { f with rem := f.rem - 1 }
  due.foldl (landFlight s.secs) { s with eng := { s.eng with flights := rest } }

/-! ## Send copies (04 R109) -/

/-- Copy one word of a send from Hamper; a word not in window is sent as 0. -/
def copyWord (s : State) (c : SendCopy) (k : Nat) : State :=
  let (v, s) := s.loadAt c.sec (c.base + BitVec.ofNat 18 k)
  s.addSendWord c.toNet c.item v

/-- The words one send copies in one cycle: two to the network, one to the partner. -/
def stepCopy (s : State) (c : SendCopy) : State × Option SendCopy :=
  let k := if c.toNet then Nat.min 2 c.left else Nat.min 1 c.left
  let s := (List.range k).foldl (fun s j => copyWord s c j) s
  if c.left ≤ k then (s.finishSend c.toNet c.item, none)
  else (s, some { c with base := c.base + BitVec.ofNat 18 k, left := c.left - k })

/-- Every copy in progress makes its words of this cycle, from Hamper as it stands at the cycle's start. -/
def State.copyCycle (s : State) : State :=
  let (s, cs) := s.eng.copies.foldl (fun (acc : State × List SendCopy) c =>
    let (s, c') := stepCopy acc.1 c
    (s, acc.2 ++ c'.toList)) ({ s with eng := { s.eng with copies := [] } }, [])
  { s with eng := { s.eng with copies := cs } }

/-- `k` cycles pass for the copies in progress. -/
def State.copyCycles : Nat → State → State
  | 0, s => s
  | k + 1, s => if s.eng.copies.isEmpty then s else State.copyCycles k s.copyCycle

/-- Pass `k` cycles in which no bundle issues. -/
def passCycles : Nat → State → State
  | 0, s => s
  | k + 1, s =>
    if s.eng.flights.isEmpty && s.eng.copies.isEmpty then s else passCycles k (s.copyCycle).endCycle

/-! ## The running segment -/

/-- The open slot that begins at the segment's next cycle, if any (02 Table CON-4). -/
def RunSeg.slotNow (g : RunSeg) : Option OpenSlot := g.seg.slots.find? fun o => decide (o.ofs = g.cyc)

/-- Run out the open slot at the segment's next cycle and those that follow on it, at most eight (02 R39, Table CON-6 0Dh): the first bundle
after a slot issues at OFS + SLEN however the slot was used. -/
def leaveSlots : Nat → State → RunSeg → State × RunSeg
  | 0, s, g => (s, g)
  | k + 1, s, g =>
    match g.slotNow with
    | none => (s, g)
    | some o =>
      leaveSlots k (passCycles (o.slen - g.slotPos) (s.onSec g.sec fun x => { x with cycles := x.cycles + o.slen }))
        { g with cyc := o.ofs + o.slen, slotPos := 0 }

/-- The state and the segment when its next bundle issues. A slot that runs to cycle DCYC leaves that bundle outside the contract: OVERRUN is
detected in its cycle, and stands even if the bundle ends the segment (02 Table CON-8, R51). -/
def State.leaveSlot (s : State) (g : RunSeg) : State × RunSeg :=
  let (s, h) := leaveSlots 8 s g
  if g.cyc < h.cyc ∧ h.seg.dcyc ≤ h.cyc ∧ !h.overran then
    let s := (s.setSeg { h with overran := true }).breachHere 1 0
    (s, s.eng.cur.getD h)
  else (s, h)

/-- The bundle address after this one: a branch whose delay bundles have issued redirects, otherwise the next in sequence (03 R66). -/
def RunSeg.advance (g : RunSeg) : RunSeg :=
  let rs := g.redirects.map fun r => (r.1 - 1, r.2)
  let due := rs.find? fun r => decide (r.1 = 0)
  { g with
    cyc := g.cyc + 1
    pc := match due with
      | some r => r.2
      | none => (g.pc + 1) % 8192
    redirects := rs.filter fun r => decide (r.1 ≠ 0) }

/-- FX cancels the sector's remaining segments of the frame; their QSEG will be taken off the declared charge (03 R68, R69). -/
def State.cancelRest (s : State) (g : RunSeg) : State :=
  let later := match s.secs[g.sec].image with
    | some im => match im.entries.find? fun e => decide (e.frame = g.frame ∧ e.tier = g.tier) with
      | some e => ((e.segs.drop (g.idx + 1)).map (·.qseg)).sum
      | none => 0
    | none => 0
  let s := s.onSec g.sec fun x => { x with cancelled := true, qCancelled := x.qCancelled + later }
  { s with eng := { s.eng with waiting := s.eng.waiting.filter fun w => decide (w.sec ≠ g.sec) } }

/-- The segment ends after its ending bundle: UNDER if before its declared cycles (02 R32), pending redirects abandoned (03 R68), and the
drain begins (04 R89). -/
def State.endSegment (s : State) (g : RunSeg) : State :=
  let s := if g.cyc < g.seg.dcyc then s.setFlag (F.SCH_BST_UNDER g.sec) else s
  let s := if g.cancel then s.cancelRest g else s
  { s with eng := { s.eng with cur := none, drain := some g.sec } }

/-- The end of an issue cycle: results due are written, the segment moves on or ends, by its ending bundle, UNDER among it, or because its
sector is to be reset. -/
def State.closeBundle (s : State) : State :=
  let s := s.endCycle
  match s.eng.cur with
  | none => s
  | some g =>
    let s := s.onSec g.sec fun x => { x with cycles := x.cycles + 1 }
    let g' := g.advance
    if g.ending then (s.setSeg g').endSegment g'
    else if g.kill then { s with eng := { s.eng with cur := none, drain := some g.sec } }
    else s.setSeg g'

/-- The segment issues no further bundle: it is to be reset, and no bundle stands in the cycle that called for the reset. A reset called by
OVERRUN lets the bundle of cycle DCYC complete (02 R46). -/
def RunSeg.held (g : RunSeg) : Bool := g.kill && !(g.overran && decide (g.cyc = g.seg.dcyc))

/-- A syllable issued alone under p0 by the running segment: one issue cycle. With no segment running, or after a
reset has been called for it, nothing issues (notes/assumptions/3.md). `f` is the syllable's effect in its sector. -/
def issueAlone (f : Sector → State → State) (s : State) : State :=
  match s.eng.cur with
  | none => s
  | some g =>
    if g.held then s else
    let (s, g) := s.leaveSlot g
    (f g.sec ((s.setSeg g).copyCycle)).closeBundle

end Sys2Proof.Machine
end

