-- ==== Sys2Proof/Machine/Alu.lean ====
section
/-! DEFINITION. Slot A: the 24 opcodes of Table INS-1 (04 R91, R92), each L = 1. For each, the word or truth value it computes, its syllable,
and the command that issues it alone. -/

namespace Sys2Proof.Machine

/-! ## Shared shapes -/

/-- A wrapping or logical operation: wD from wA and B, no flag. -/
def aluW (f : Word → Word → Word) (n : Sector) (d a : Fin 16) (b : Word) (s : State) : State :=
  s.toW n 1 d (f (s.secs[n].rdW a) b) false

/-- A saturating operation: wD from wA and B, SAT when the clamp changes the value. -/
def aluSat (f : Word → Word → Int) (n : Sector) (d a : Fin 16) (b : Word) (s : State) : State :=
  let r := sat18 (f (s.secs[n].rdW a) b)
  s.toW n 1 d r.1 r.2

/-- A compare: pD from wA and B, complemented when d[3] = 1 (04 R86). -/
def aluCmp (f : Word → Word → Bool) (n : Sector) (d a : Fin 16) (b : Word) (s : State) : State :=
  s.toP n 1 d (f (s.secs[n].rdW a) b)

/-- Predicate logic: sources complemented by a[3] and b[3]. -/
def aluPred (f : Bool → Bool → Bool) (n : Sector) (d a b : Fin 16) (s : State) : State :=
  let x := s.secs[n]
  s.toP n 1 d (f (x.rdP (predIx a) != bit3 a) (x.rdP (predIx b) != bit3 b))

/-! ## Values -/

def shiftLeft18 (a : Word) (k : Nat) : Word := if 18 ≤ k then 0 else a <<< k

def shiftRight18 (a : Word) (k : Nat) : Word := if 18 ≤ k then 0 else a >>> k

def shiftArith18 (a : Word) (k : Nat) : Word :=
  if 18 ≤ k then (if a.slt 0 then BitVec.allOnes 18 else 0) else a.sshiftRight k

/-- wA clamped to the signed range of n = imm4 + 2 bits. -/
def satBits (a : Word) (b : Fin 16) : Word × Bool :=
  let c := clampTo (b + 2) a.toInt
  (BitVec.ofInt 18 c, decide (c ≠ a.toInt))

/-! ## Syllables -/

def sylAdd (n : Sector) (d a b : Fin 16) (imm : Option Word) (s : State) : State :=
  aluW (fun x y => x + y) n d a (bReg s.secs[n] b imm) s

def sylSub (n : Sector) (d a b : Fin 16) (imm : Option Word) (s : State) : State :=
  aluW (fun x y => x - y) n d a (bReg s.secs[n] b imm) s

def sylAddi (n : Sector) (d a b : Fin 16) (imm : Option Word) (s : State) : State :=
  aluW (fun x y => x + y) n d a (bImm b imm) s

def sylAdds (n : Sector) (d a b : Fin 16) (imm : Option Word) (s : State) : State :=
  aluSat (fun x y => x.toInt + y.toInt) n d a (bReg s.secs[n] b imm) s

def sylSubs (n : Sector) (d a b : Fin 16) (imm : Option Word) (s : State) : State :=
  aluSat (fun x y => x.toInt - y.toInt) n d a (bReg s.secs[n] b imm) s

def sylAnd (n : Sector) (d a b : Fin 16) (imm : Option Word) (s : State) : State :=
  aluW (fun x y => x &&& y) n d a (bReg s.secs[n] b imm) s

def sylOr (n : Sector) (d a b : Fin 16) (imm : Option Word) (s : State) : State :=
  aluW (fun x y => x ||| y) n d a (bReg s.secs[n] b imm) s

def sylXor (n : Sector) (d a b : Fin 16) (imm : Option Word) (s : State) : State :=
  aluW (fun x y => x ^^^ y) n d a (bReg s.secs[n] b imm) s

/-- The b field is ignored and a long immediate discarded. -/
def sylAbs (n : Sector) (d a _b : Fin 16) (_imm : Option Word) (s : State) : State :=
  aluSat (fun x _ => x.toInt.natAbs) n d a 0 s

def sylMin (n : Sector) (d a b : Fin 16) (imm : Option Word) (s : State) : State :=
  aluW (fun x y => if x.sle y then x else y) n d a (bReg s.secs[n] b imm) s

def sylMax (n : Sector) (d a b : Fin 16) (imm : Option Word) (s : State) : State :=
  aluW (fun x y => if x.sle y then y else x) n d a (bReg s.secs[n] b imm) s

/-- The full unsigned count of B; 0 for counts of 18 and more (04 R92). -/
def sylShli (n : Sector) (d a b : Fin 16) (imm : Option Word) (s : State) : State :=
  aluW (fun x y => shiftLeft18 x y.toNat) n d a (bImm b imm) s

def sylShri (n : Sector) (d a b : Fin 16) (imm : Option Word) (s : State) : State :=
  aluW (fun x y => shiftRight18 x y.toNat) n d a (bImm b imm) s

def sylSrai (n : Sector) (d a b : Fin 16) (imm : Option Word) (s : State) : State :=
  aluW (fun x y => shiftArith18 x y.toNat) n d a (bImm b imm) s

def sylShlv (n : Sector) (d a b : Fin 16) (imm : Option Word) (s : State) : State :=
  aluW (fun x y => shiftLeft18 x y.toNat) n d a (bReg s.secs[n] b imm) s

def sylSrav (n : Sector) (d a b : Fin 16) (imm : Option Word) (s : State) : State :=
  aluW (fun x y => shiftArith18 x y.toNat) n d a (bReg s.secs[n] b imm) s

/-- sat takes its width from imm4; a long immediate is discarded. -/
def sylSat (n : Sector) (d a b : Fin 16) (_imm : Option Word) (s : State) : State :=
  let r := satBits (s.secs[n].rdW a) b
  s.toW n 1 d r.1 r.2

def sylCmpeq (n : Sector) (d a b : Fin 16) (imm : Option Word) (s : State) : State :=
  aluCmp (fun x y => x == y) n d a (bReg s.secs[n] b imm) s

def sylCmplt (n : Sector) (d a b : Fin 16) (imm : Option Word) (s : State) : State :=
  aluCmp (fun x y => x.slt y) n d a (bReg s.secs[n] b imm) s

def sylCmple (n : Sector) (d a b : Fin 16) (imm : Option Word) (s : State) : State :=
  aluCmp (fun x y => x.sle y) n d a (bReg s.secs[n] b imm) s

def sylCmpltu (n : Sector) (d a b : Fin 16) (imm : Option Word) (s : State) : State :=
  aluCmp (fun x y => x.ult y) n d a (bReg s.secs[n] b imm) s

def sylPand (n : Sector) (d a b : Fin 16) (_imm : Option Word) (s : State) : State :=
  aluPred (fun x y => x && y) n d a b s

def sylPor (n : Sector) (d a b : Fin 16) (_imm : Option Word) (s : State) : State :=
  aluPred (fun x y => x || y) n d a b s

def sylPxor (n : Sector) (d a b : Fin 16) (_imm : Option Word) (s : State) : State :=
  aluPred (fun x y => x != y) n d a b s

/-! ## Commands -/

/-- NOP: an issue cycle with no effect (03 R55). -/
def execNop (s : State) : Host.Outcome State Fault Refusal := .next (issueAlone (fun _ s => s) s)

def execAdd (d a b : Fin 16) (imm : Option Word) (s : State) : Host.Outcome State Fault Refusal :=
  .next (issueAlone (fun n => sylAdd n d a b imm) s)

def execSub (d a b : Fin 16) (imm : Option Word) (s : State) : Host.Outcome State Fault Refusal :=
  .next (issueAlone (fun n => sylSub n d a b imm) s)

def execAddi (d a b : Fin 16) (imm : Option Word) (s : State) : Host.Outcome State Fault Refusal :=
  .next (issueAlone (fun n => sylAddi n d a b imm) s)

def execAdds (d a b : Fin 16) (imm : Option Word) (s : State) : Host.Outcome State Fault Refusal :=
  .next (issueAlone (fun n => sylAdds n d a b imm) s)

def execSubs (d a b : Fin 16) (imm : Option Word) (s : State) : Host.Outcome State Fault Refusal :=
  .next (issueAlone (fun n => sylSubs n d a b imm) s)

def execAnd (d a b : Fin 16) (imm : Option Word) (s : State) : Host.Outcome State Fault Refusal :=
  .next (issueAlone (fun n => sylAnd n d a b imm) s)

def execOr (d a b : Fin 16) (imm : Option Word) (s : State) : Host.Outcome State Fault Refusal :=
  .next (issueAlone (fun n => sylOr n d a b imm) s)

def execXor (d a b : Fin 16) (imm : Option Word) (s : State) : Host.Outcome State Fault Refusal :=
  .next (issueAlone (fun n => sylXor n d a b imm) s)

def execAbs (d a b : Fin 16) (imm : Option Word) (s : State) : Host.Outcome State Fault Refusal :=
  .next (issueAlone (fun n => sylAbs n d a b imm) s)

def execMin (d a b : Fin 16) (imm : Option Word) (s : State) : Host.Outcome State Fault Refusal :=
  .next (issueAlone (fun n => sylMin n d a b imm) s)

def execMax (d a b : Fin 16) (imm : Option Word) (s : State) : Host.Outcome State Fault Refusal :=
  .next (issueAlone (fun n => sylMax n d a b imm) s)

def execShli (d a b : Fin 16) (imm : Option Word) (s : State) : Host.Outcome State Fault Refusal :=
  .next (issueAlone (fun n => sylShli n d a b imm) s)

def execShri (d a b : Fin 16) (imm : Option Word) (s : State) : Host.Outcome State Fault Refusal :=
  .next (issueAlone (fun n => sylShri n d a b imm) s)

def execSrai (d a b : Fin 16) (imm : Option Word) (s : State) : Host.Outcome State Fault Refusal :=
  .next (issueAlone (fun n => sylSrai n d a b imm) s)

def execShlv (d a b : Fin 16) (imm : Option Word) (s : State) : Host.Outcome State Fault Refusal :=
  .next (issueAlone (fun n => sylShlv n d a b imm) s)

def execSrav (d a b : Fin 16) (imm : Option Word) (s : State) : Host.Outcome State Fault Refusal :=
  .next (issueAlone (fun n => sylSrav n d a b imm) s)

def execSat (d a b : Fin 16) (imm : Option Word) (s : State) : Host.Outcome State Fault Refusal :=
  .next (issueAlone (fun n => sylSat n d a b imm) s)

def execCmpeq (d a b : Fin 16) (imm : Option Word) (s : State) : Host.Outcome State Fault Refusal :=
  .next (issueAlone (fun n => sylCmpeq n d a b imm) s)

def execCmplt (d a b : Fin 16) (imm : Option Word) (s : State) : Host.Outcome State Fault Refusal :=
  .next (issueAlone (fun n => sylCmplt n d a b imm) s)

def execCmple (d a b : Fin 16) (imm : Option Word) (s : State) : Host.Outcome State Fault Refusal :=
  .next (issueAlone (fun n => sylCmple n d a b imm) s)

def execCmpltu (d a b : Fin 16) (imm : Option Word) (s : State) : Host.Outcome State Fault Refusal :=
  .next (issueAlone (fun n => sylCmpltu n d a b imm) s)

def execPand (d a b : Fin 16) (imm : Option Word) (s : State) : Host.Outcome State Fault Refusal :=
  .next (issueAlone (fun n => sylPand n d a b imm) s)

def execPor (d a b : Fin 16) (imm : Option Word) (s : State) : Host.Outcome State Fault Refusal :=
  .next (issueAlone (fun n => sylPor n d a b imm) s)

def execPxor (d a b : Fin 16) (imm : Option Word) (s : State) : Host.Outcome State Fault Refusal :=
  .next (issueAlone (fun n => sylPxor n d a b imm) s)

end Sys2Proof.Machine
end

