-- ==== Sys2Proof/Machine/Analog.lean ====
section
/-! DEFINITION. The analog front end (08): descriptors, excitation and TIA control words, clamp and limit flags. -/

namespace Sys2Proof.Machine

/-! ## Descriptor fields (08 Table AFE-11) -/

/-- Bits [hi:lo] of a word as a number. -/
def bits (w : Word) (hi lo : Nat) : Nat := w.toNat / 2 ^ lo % 2 ^ (hi + 1 - lo)

def DescWords.pos (x : DescWords) : Nat := bits x.w0 17 12
def DescWords.neg (x : DescWords) : Nat := bits x.w0 11 6
def DescWords.aux (x : DescWords) : Nat := bits x.w0 5 0
def DescWords.gain (x : DescWords) : Nat := bits x.w1 17 15
def DescWords.wire (x : DescWords) : Nat := bits x.w1 14 12
def DescWords.refsel (x : DescWords) : Nat := bits x.w1 11 10
def DescWords.bo (x : DescWords) : Nat := bits x.w1 9 8
def DescWords.fprof (x : DescWords) : Nat := bits x.w1 6 4
def DescWords.excmask (x : DescWords) : Nat := bits x.w1 3 0
def DescWords.curve (x : DescWords) : Nat := bits x.w2 17 13
def DescWords.exp (x : DescWords) : Int := (x.w2.extractLsb' 8 5).toInt
def DescWords.thrset (x : DescWords) : Nat := bits x.w2 7 5
def DescWords.rot (x : DescWords) : Bool := x.w2.getLsbD 4
def DescWords.lead (x : DescWords) : Nat := bits x.w2 3 0
def DescWords.cmlo (x : DescWords) : Nat := bits x.w3 17 12
def DescWords.cmhi (x : DescWords) : Nat := bits x.w3 11 6

/-- The committed words of descriptor d (08 R200). -/
def State.descWords (s : State) (d : Nat) : DescWords :=
  ⟨s.word (A.DESC_W0 d), s.word (A.DESC_W0 d + 1), s.word (A.DESC_W0 d + 2), s.word (A.DESC_W0 d + 3)⟩

/-! ## Coefficient places (10 Table CAL-9) -/

/-- OFS of a lane's self-calibration set; GCOR, TCAL and AGEC follow. -/
def setAddr (i g : Nat) : Nat := 0x900 + 0x20 * i + 4 * g

def trimAddr (n step : Nat) : Nat := 0x980 + 8 * n + step

def gtAddr (t fb : Nat) : Nat := 0x9A0 + 4 * t + fb

/-! ## Staged words (08 R200, 09 R216, R229) -/

def State.stagedWord (s : State) (a : Nat) : Option Word := storeRead (fun _ => none) s.afe.staged a

def State.stageWord (s : State) (a : Nat) (v : Option Word) : State :=
  { s with afe := { s.afe with staged := storeWrite (fun _ => none) s.afe.staged a v } }

/-- Commit the staged words among `k` words from `a` on; a word with nothing staged stays. -/
def commitStaged (a : Nat) : Nat → State → State
  | 0, s => s
  | k + 1, s =>
    let s := match s.stagedWord a with
      | some v => (s.setWord a v).stageWord a none
      | none => s
    commitStaged (a + 1) k s

/-- Word 3 of descriptor d written: all four words commit (08 R200); LASTV(d) is older than the commit (10 R239). -/
def State.commitDesc (s : State) (d : Nat) (v : Word) : State :=
  let a := A.DESC_W0 d
  let s := { s with cal := { s.cal with lastv := storeWrite (fun _ => none) s.cal.lastv d none } }
  (commitStaged a 3 s).setWord (a + 3) (writableBits (a + 3) v)

/-! ## Which conversions use a unit (08 R195, R196) -/

/-- A descriptor's wiring is BR4 or BR6. -/
def DescWords.isBridge (x : DescWords) : Bool := decide (x.wire = 6 ∨ x.wire = 7)

/-- A descriptor gates unit u: an IEXC it names in EXCMASK, or the VEXC (u = 4) under a bridge wiring, when the unit has PULSE = 1. -/
def State.gates (s : State) (x : DescWords) (u : Nat) : Bool :=
  if u < 4 then (x.excmask / 2 ^ u % 2 == 1) && s.isSet (F.IEXC_CTL_PULSE u)
  else x.isBridge && s.isSet F.VEXC_CTL_PULSE

/-- A conversion whose window is open gates unit u or names it in its EXCMASK (08 R196), or unit u is being calibrated (10 R249). Units:
IEXC0 to IEXC3, 4 VEXC, 5 and 6 TIA0 and TIA1. -/
def State.unitBusy (s : State) (u : Nat) : Bool :=
  ([(0 : LaneId), 1, 2, 3].any fun i => match s.lanes[i].window with
    | some x => decide (u < 5) && (s.gates x u || (decide (u < 4) && x.excmask / 2 ^ u % 2 == 1))
    | none => false) ||
  match s.cal.active with
  | some r => r.measuring && ((r.kind == 3 && decide (u < 4) && r.mask / 2 ^ u % 2 == 1) || (r.kind == 4 && u == 5 + r.tia))
  | none => false

/-! ## Control words (08 R193, R194, R198) -/

/-- Why an IEXC word with EN = 1 is refused (08 Table AFE-5). -/
def State.iexcRefused (s : State) (n : Sector) (u : Fin 4) (v : Word) : Bool :=
  let pin := bits v 12 8
  let rtn := bits v 7 3
  let others := (List.range 4).filter fun j => decide (j ≠ u.val) && s.isSet (F.IEXC_CTL_EN j)
  v.getLsbD 17 &&
    (decide (24 ≤ pin) || decide (24 ≤ rtn ∧ rtn ≤ 30) || decide (pin = rtn) ||
     others.any fun j =>
       (decide (s.get (F.IEXC_CTL_PIN j) = pin) && s.isSet (F.LOCK_ST_HELD j) && !s.holds n j) ||
       decide (s.get (F.IEXC_CTL_RTN j) = pin) || decide (s.get (F.IEXC_CTL_PIN j) = rtn))

/-- A source is enabled or its gating window opens: the TRIM of its step comes into force (10 R244). -/
def State.latchTrim (s : State) (u : Fin 4) : State :=
  { s with afe := { s.afe with trim := s.afe.trim.set u (s.curveWord (trimAddr u (s.get (F.IEXC_CTL_STEP u)))) } }

/-- Put an IEXC word in force. -/
def State.putIexc (s : State) (u : Fin 4) (v : Word) : State :=
  let s := s.setBits (A.IEXC_CTL u) 0x3FFFD (v &&& 0x3FFFC)
  if v.getLsbD 17 then s.latchTrim u else s

/-- Put the VEXC word in force. -/
def State.putVexc (s : State) (v : Word) : State := s.setBits A.VEXC_CTL 0x3C001 (v &&& 0x3C000)

/-- The word held for a unit, if any, replaced. -/
def State.setHeld (s : State) (u : Fin 7) (v : Option Word) : State := { s with afe := { s.afe with held := s.afe.held.set u v } }

/-- Hold a word for unit u, replacing one held (08 R196); PEND reads 1. -/
def State.holdWord (s : State) (u : Fin 7) (v : Word) : State :=
  let s := s.setHeld u (some v)
  if u.val < 4 then s.setFlag (F.IEXC_CTL_PEND u) else if u = 4 then s.setFlag F.VEXC_CTL_PEND else s

/-! ## Loop paths (08 R185 to R187) -/

/-- The loop pin that a TIA is connected to: its word in force connects it, and the domain is ON (08 R207). -/
def State.tiaPin (s : State) (t : Fin 2) : Option (Fin 4) :=
  if s.isSet (F.TIA_CTL_EN t) && s.settledOn .tia then some ⟨s.get (F.TIA_CTL_LP t) % 4, by omega⟩ else none

def State.tiaHolds (s : State) (p : Fin 4) : Bool := s.tiaPin 0 == some p || s.tiaPin 1 == some p

/-- The first half of a change of path (08 Table AFE-16, 0.5 µs): a stage that connects engages its virtual ground, and the shunt of a pin
that no stage is connected to closes. -/
def State.engageLoops (s : State) : State :=
  { s with afe := { s.afe with
      virt := Vector.ofFn fun t =>
        let held := s.afe.virt[t]
        match s.tiaPin t with
        | some p => if p ∈ held then held else held ++ [p]
        | none => held
      shunts := Vector.ofFn fun p => s.afe.shunts[p] || !s.tiaHolds p } }

/-- The second half (10.5 µs): the shunt of a connected pin opens, and the virtual ground of a pin left releases. -/
def State.settleLoops (s : State) : State :=
  { s with afe := { s.afe with
      virt := Vector.ofFn fun t => (s.tiaPin t).toList
      shunts := Vector.ofFn fun p => !s.tiaHolds p } }

/-- The TIA domain leaves ON: every shunt closes, the virtual grounds yet to release (08 R185, R187). -/
def State.closeShunts (s : State) : State := { s with afe := { s.afe with shunts := Vector.replicate 4 true } }

/-- A stage connects: the GT of its feedback comes into force (10 R244). -/
def State.latchGt (s : State) (t : Fin 2) : State :=
  if s.isSet (F.TIA_CTL_EN t) then
    { s with afe := { s.afe with gt := s.afe.gt.set t (s.curveWord (gtAddr t (s.get (F.TIA_CTL_FB t)))) } }
  else s

/-- The TIA domain reaches ON: the stages connect as their words have them (08 R207). -/
def State.tiaDomainUp (s : State) : State := ((s.latchGt 0).latchGt 1).engageLoops

/-- Put a TIA word in force. -/
def State.putTia (s : State) (t : Fin 2) (v : Word) : State := ((s.setWord (A.TIA_CTL t) (v &&& 0x38C00)).latchGt t).engageLoops

/-- A word in force at its unit. -/
def State.putUnit (s : State) (u : Fin 7) (v : Word) : State :=
  if h : u.val < 4 then s.putIexc ⟨u, h⟩ v else if u = 4 then s.putVexc v else s.putTia ⟨(u.val - 5) % 2, by omega⟩ v

/-- A held word is applied when nothing uses its unit any more (08 R196, 10 R249). -/
def State.applyHeld (s : State) (u : Fin 7) : State :=
  match s.afe.held[u] with
  | none => s
  | some v => if s.unitBusy u then s else (s.setHeld u none).putUnit u v

/-- Every held word whose unit is free is applied. -/
def State.applyAllHeld (s : State) : State := [(0 : Fin 7), 1, 2, 3, 4, 5, 6].foldl State.applyHeld s

/-- A word for a unit: held while the unit is in use, else taken at once. -/
def State.giveUnit (s : State) (u : Fin 7) (v : Word) : State :=
  if s.unitBusy u then s.holdWord u v else (s.setHeld u none).putUnit u v

/-- A command to a locked unit: suppressed with NOGR where the unit is not granted, counted where its lock is not held (04 R90, 01 R22). -/
def State.guardUnit (s : State) (n : Sector) (k : Nat) (act : State → State) : State :=
  if !s.hasUnit n k then s.noGrant n else if !s.holds n k then s.noLock n else act s

/-- iexc: refused, held or taken (08 R193, R194, R196). -/
def State.iexcWord (s : State) (n : Sector) (u : Fin 4) (v : Word) : State :=
  if s.iexcRefused n u v then s.setFlag ⟨A.AFE_STAT, 10 + u, 10 + u⟩ else s.giveUnit ⟨u, by omega⟩ v

/-- vexc: held or taken; never refused (08 R196, R198). -/
def State.vexcWord (s : State) (v : Word) : State := s.giveUnit 4 v

/-- tia: refused where its LP pin is connected to the other stage (08 R194), else held under calibration or taken. -/
def State.tiaWord (s : State) (u : Fin 2) (v : Word) : State :=
  let o := 1 - u.val
  if v.getLsbD 17 && s.isSet (F.TIA_CTL_EN o) && decide (s.get (F.TIA_CTL_LP o) = bits v 11 10) then
    s.setFlag ⟨A.AFE_STAT, 8 + u, 8 + u⟩
  else s.giveUnit ⟨5 + u, by omega⟩ v

/-- Forced idle of a source, VEXC or TIA (05 Table SEC-5): off, steering open; never held (08 R196). -/
def State.idleAfe (s : State) (u : Fin 7) : State := (s.setHeld u none).putUnit u (if u.val < 4 then 0xF8 else 0)

def sylIexc (n : Sector) (u : Fin 4) (a : Fin 16) (s : State) : State :=
  s.guardUnit n u fun s => s.iexcWord n u (s.secs[n].rdW a)

def sylVexc (n : Sector) (a : Fin 16) (s : State) : State := s.guardUnit n 4 fun s => s.vexcWord (s.secs[n].rdW a)

def sylTia (n : Sector) (u : Fin 2) (a : Fin 16) (s : State) : State :=
  s.guardUnit n (5 + u) fun s => s.tiaWord u (s.secs[n].rdW a)

def execIexc (u : Fin 4) (a _b : Fin 16) (s : State) : Host.Outcome State Fault Refusal :=
  .next (issueAlone (fun n => sylIexc n u a) s)

def execVexc (a _b : Fin 16) (s : State) : Host.Outcome State Fault Refusal := .next (issueAlone (fun n => sylVexc n a) s)

def execTia (u : Fin 2) (a _b : Fin 16) (s : State) : Host.Outcome State Fault Refusal :=
  .next (issueAlone (fun n => sylTia n u a) s)

/-! ## Clamp, limiter and limit flags (08 R186 to R190, R193, R198) -/

/-- The flag of a clamp: 0 to 23 AIN, 24 to 27 the reverse clamp of LP, 28 to 31 its limiter. -/
def clampFlag (p : Nat) : Fld :=
  if p < 18 then ⟨A.AFE_CLMP0, p, p⟩
  else if p < 24 then ⟨A.AFE_CLMP1, p - 10, p - 10⟩
  else if p < 28 then ⟨A.AFE_CLMP1, p - 20, p - 20⟩
  else ⟨A.AFE_CLMP1, p - 28, p - 28⟩

/-- AUX holds the number of a cold-junction descriptor: curves 1 to 8 under wiring DIFF (08 R201). -/
def DescWords.coldJunction (x : DescWords) : Bool := decide (x.wire = 0 ∧ 1 ≤ x.curve ∧ x.curve ≤ 8)

/-- A descriptor names a source code as POS, NEG or AUX. -/
def DescWords.names (x : DescWords) (code : Nat) : Bool :=
  decide (x.pos = code ∨ x.neg = code) || (!x.coldJunction && decide (x.aux = code))

/-- A descriptor names a clamped pin: as POS, NEG or AUX, or, for a loop pin, through the TIA connected to it (08 R190). -/
def State.namesPin (s : State) (x : DescWords) (p : Nat) : Bool :=
  let viaTia (t : Nat) := decide (24 ≤ p) && s.isSet (F.TIA_CTL_EN t) && decide (s.get (F.TIA_CTL_LP t) = p % 4) && x.names (47 + t)
  x.names (if p < 24 then p else 24 + p % 4) || viaTia 0 || viaTia 1

/-- The place of a scan-list entry (09 Table LAN-8). -/
def listField (i : LaneId) (e : Nat) : Fld := ⟨A.LANE_LIST i (e / 3), 6 * (e % 3) + 5, 6 * (e % 3)⟩

/-- The descriptor of a scan-list entry. -/
def State.listEntry (s : State) (i : LaneId) (e : Nat) : Nat := s.get (listField i e)

/-- The descriptors a lane may convert: the one it converts and its scan list (08 R190). DESIGN CHOICE (notes/assumptions/91.md): the scan
list is entries 0 to LANE_SCAN.LEN, those a scan visits (09 R223). -/
def State.laneDescs (s : State) (i : LaneId) : List DescWords :=
  (s.lanes[i].conv.map (·.desc)).toList ++
    ((List.range (s.get (F.LANE_SCAN_LEN i) + 1)).map fun e => s.descWords (s.listEntry i e))

/-- A clamp or limiter flag sets; on its change from 0 to 1 event CLAMP sets in each sector with a lane that names the pin. -/
def State.clampAt (s : State) (p : Nat) : State :=
  if s.isSet (clampFlag p) then s else
  let s := s.setFlag (clampFlag p)
  s.raiseWhere (fun n => [(0 : LaneId), 1, 2, 3].any fun i => s.hasLane n i && (s.laneDescs i).any fun x => s.namesPin x p) 15

def execClamp (p : Fin 28) (s : State) : Host.Outcome State Fault Refusal := .next (s.clampAt p)

def execLplim (n : Fin 4) (s : State) : Host.Outcome State Fault Refusal := .next (s.clampAt (28 + n))

/-- A limit can be reached: of a source with EN = 1, of VLIFT with such a source returned to it, of an enabled VEXC (08 R193, R198). -/
def State.excCan (s : State) (k : ExcLimit) : Bool :=
  match k with
  | .cmpx n => s.isSet (F.IEXC_CTL_EN n)
  | .vllim => (List.range 4).any fun u => s.isSet (F.IEXC_CTL_EN u) && s.isSet (F.IEXC_CTL_LIFT u)
  | .vxlim => s.isSet F.VEXC_CTL_EN

/-- The flag of a limit. -/
def excFlag : ExcLimit → Fld
  | .cmpx n => ⟨A.AFE_STAT, 14 + n, 14 + n⟩
  | .vllim => F.AFE_STAT_VLLIM
  | .vxlim => F.AFE_STAT_VXLIM

/-- A source out of compliance, VLIFT over its sink, or VEXC at its limit (08 R193, R198). -/
def execExcitationLimit (k : ExcLimit) (s : State) : Host.Outcome State Fault Refusal :=
  .next (if s.excCan k then s.setFlag (excFlag k) else s)

/-- A connected TIA's output reaches its limit (08 R186). -/
def State.tiaSat (s : State) (t : Fin 2) : State := if (s.tiaPin t).isSome then s.setFlag ⟨A.AFE_STAT, 6 + t, 6 + t⟩ else s

def execTiasat (t : Fin 2) (s : State) : Host.Outcome State Fault Refusal := .next (s.tiaSat t)

/-! ## What the excitation units put out (08 R193, R195, R197, R198, R207) -/

/-- A window is open whose descriptor gates unit u. -/
def State.gateOpen (s : State) (u : Nat) : Bool :=
  [(0 : LaneId), 1, 2, 3].any fun i => s.lanes[i].window.any (s.gates · u)

/-- Source u is under a calibration of kind 3, which takes its current into R_MATCH (10 Table CAL-5). -/
def State.calSource (s : State) (u : Nat) : Bool :=
  s.cal.active.any fun r => r.measuring && decide (r.kind = 3 ∧ r.mask / 2 ^ u % 2 = 1)

/-- IEXCu delivers its current to its pin: enabled, its domain ON, and with PULSE = 1 only in a window that gates it. -/
def State.sourceOn (s : State) (u : Nat) : Bool :=
  s.isSet (F.IEXC_CTL_EN u) && s.settledOn .exc && (!s.isSet (F.IEXC_CTL_PULSE u) || s.gateOpen u) && !s.calSource u

/-- VEXC delivers output. -/
def State.vexcOn (s : State) : Bool :=
  s.isSet F.VEXC_CTL_EN && s.settledOn .exc && (!s.isSet F.VEXC_CTL_PULSE || s.gateOpen 4)

/-- What VEXP and VEXN carry: a level in mV with VEXN at AGND through its switch, or the 100 Ω discharge; with `sreg` VEXP rises by up to
250 mV so that the sense pins hold the level. -/
inductive VexcPins where
  | driven (level : Nat) (sreg : Bool)
  | discharged
  deriving DecidableEq, Repr

def State.vexcPins (s : State) : VexcPins :=
  if s.vexcOn then .driven (if s.isSet F.VEXC_CTL_LVL then 5000 else 2500) (s.isSet F.VEXC_CTL_SREG) else .discharged

/-! ## Descriptor faults (08 R201) -/

def isLoopCode (c : Nat) : Bool := decide (24 ≤ c ∧ c ≤ 27)
def isTiaCode (c : Nat) : Bool := decide (c = 47 ∨ c = 48)

/-- AUX names a source under this wiring: the lead-A pin of RTD3. -/
def DescWords.usesAux (x : DescWords) : Bool := decide (x.wire = 3)

/-- Sources a and b of a wiring RTD3D (08 R197, R201). DESIGN CHOICE (notes/assumptions/91.md): the two lowest of EXCMASK, a the lower. -/
def DescWords.sourcePair (x : DescWords) : List Nat := ((List.range 4).filter fun u => x.excmask / 2 ^ u % 2 == 1).take 2

/-- The two sources of a pair whose second conversion is in its window, their PINs swapped (08 R197). -/
def State.swapOf (s : State) (i : LaneId) : Option (Nat × Nat) :=
  match s.lanes[i].conv, s.lanes[i].window with
  | some c, some _ =>
    match c.desc.sourcePair with
    | [a, b] => if c.desc.wire = 4 ∧ c.desc.rot = true ∧ c.phase = 1 ∧ c.test.isNone then some (a, b) else none
    | _ => none
  | _, _ => none

/-- The partner whose PIN source u takes for a second conversion; the register keeps the word in force. -/
def State.swapped (s : State) (u : Nat) : Nat :=
  match [(0 : LaneId), 1, 2, 3].findSome? fun i => (s.swapOf i).filter fun p => decide (p.1 = u ∨ p.2 = u) with
  | some p => if p.1 = u then p.2 else p.1
  | none => u

/-- The pin that source u is steered to: none with its steering open, that is with EN = 0, or its domain not ON (08 R193, R207, 05 Table
SEC-5). -/
def State.steeredPin (s : State) (u : Nat) : Option Nat :=
  if s.isSet (F.IEXC_CTL_EN u) && s.settledOn .exc then some (s.get (F.IEXC_CTL_PIN (s.swapped u))) else none

/-- The return switch of source u: the pin it connects, if any, and whether to VLIFT or to AGND (08 R193). -/
def State.returnPin (s : State) (u : Nat) : Option (Nat × Bool) :=
  if s.isSet (F.IEXC_CTL_EN u) && s.settledOn .exc && decide (s.get (F.IEXC_CTL_RTN u) ≠ 31) then
    some (s.get (F.IEXC_CTL_RTN u), s.isSet (F.IEXC_CTL_LIFT u))
  else none

/-- The descriptor is at fault for a conversion in RATIO mode or not; `refOk` tells that the reference held R184's range. -/
def State.descFault (s : State) (x : DescWords) (ratio refOk : Bool) : Bool :=
  let posLT := isLoopCode x.pos || isTiaCode x.pos
  let steered := match x.sourcePair with
    | [a, b] => s.steeredPin a == some x.pos && s.steeredPin b == some x.neg
    | _ => false
  decide (53 ≤ x.pos) || (!posLT && decide (53 ≤ x.neg)) || (x.usesAux && decide (53 ≤ x.aux)) ||
  (!posLT && (isLoopCode x.neg || isTiaCode x.neg)) || (x.usesAux && (isLoopCode x.aux || isTiaCode x.aux)) ||
  (decide (x.wire = 1) && !posLT) || (isLoopCode x.pos && decide (x.wire ≠ 1)) ||
  (ratio && decide (x.refsel = 3 ∧ x.excmask = 0)) ||
  (x.isBridge && decide (x.refsel ≠ 2)) ||
  (decide (x.wire = 4) && !steered) || !refOk

end Sys2Proof.Machine
end

