-- ==== Sys2Proof/Machine/Slots.lean ====
section
/-! DEFINITION. Open slots (02 R39 to R44): the service window, bookings, and the choice among requesting sectors. -/

namespace Sys2Proof.Machine

/-- Release tail of a service, cyc (02 Table CON-7): 0 HOST, 1 TWIN, 2 NETRX, 3 TELEM, 4 CAL, 5 FLASH, 6 SCRUB. -/
def svcTail (k : Nat) : Nat := [8, 16, 8, 8, 160, 1600, 4].getD k 0

/-- A slot admits a service. -/
def OpenSlot.admits (o : OpenSlot) (k : Nat) : Bool := o.svc / 2 ^ k % 2 == 1

/-- The tail of a slot: the largest among the services it admits (02 R40). -/
def OpenSlot.tail (o : OpenSlot) : Nat :=
  (List.range 7).foldl (fun t k => if o.admits k then Nat.max t (svcTail k) else t) 0

/-- Cycles left of the service window in which a booking of service `k` may run: 0 where the running segment stands in no slot that admits
it. -/
def State.slotRoom (s : State) (k : Nat) : Nat :=
  match s.eng.cur with
  | none => 0
  | some g =>
    if g.kill || g.ending then 0 else
    match g.slotNow with
    | none => 0
    | some o => if o.admits k then o.slen - o.tail - g.slotPos else 0

/-- A booking of `len` cycles for sector n takes place (02 R42). -/
def State.book (s : State) (n : Sector) (len : Nat) : State :=
  match s.eng.cur with
  | none => s
  | some g =>
    let s := s.setSeg { g with slotPos := g.slotPos + len }
    (passCycles len s).onSec n fun x => { x with used := x.used + len }

/-- Sector m's ratio USED / SHARE is smaller than sector n's; a share of 0 comes after every other (02 R42). -/
def State.ratioBefore (s : State) (m n : Sector) : Bool :=
  let a := s.get (F.SEC_QOS_SHARE m)
  let b := s.get (F.SEC_QOS_SHARE n)
  if a = 0 then false else if b = 0 then true else decide (s.secs[m].used * b < s.secs[n].used * a)

/-- The requesting sector a booking decision selects among those that satisfy `p`; equal ratios go to the lower number. -/
def State.pickSector (s : State) (p : Sector → Bool) : Option Sector :=
  (sectors.filter p).foldl (fun best n =>
    match best with
    | none => some n
    | some m => if s.ratioBefore n m then some n else some m) none

end Sys2Proof.Machine
end

