-- ==== Sys2Proof/Machine/Flash.lean ====
section
/-! DEFINITION. Flash (12 R282 to R290): layout and rights, the journal and its records, requests, bookings and array steps. -/

namespace Sys2Proof.Machine

/-! ## Bytes and pages -/

def State.flashByte (s : State) (a : Nat) : Byte := storeRead (fun _ => 0xFF) s.mem.flash a

def State.flashBytes (s : State) (a n : Nat) : List Byte := storeReadRun (fun _ => 0xFF) s.mem.flash a n

def State.onMem (s : State) (f : Mem → Mem) : State := { s with mem := f s.mem }

def State.putFlash (s : State) (a : Nat) (l : List Byte) : State :=
  s.onMem fun m => { m with flash := storeWriteRun (fun _ => 0xFF) m.flash a l }

/-- Erase a page: every byte FFh. -/
def State.erasePage (s : State) (p : Nat) : State :=
  s.onMem fun m => { m with flash := m.flash.filter fun c => decide (c.1 / 4096 ≠ p) }

def State.eraseCount (s : State) (p : Nat) : Nat := storeRead (fun _ => 0) s.mem.wear p

/-- A page lies in the journal (12 Table MEM-5). -/
def inJournal (p : Nat) : Bool := decide (64 ≤ p ∧ p < 120)

/-- The info granule is written with a new erase count; the page is no longer SUSPECT. WEAR, EOL and FL_ECMAX follow (12 R286). -/
def State.putErases (s : State) (p k : Nat) : State :=
  let k := Nat.min k (2 ^ 18 - 1)
  let s := s.onMem fun m =>
    { m with wear := storeWrite (fun _ => 0) m.wear p k, infoBad := m.infoBad.filter (· ≠ p), suspect := m.suspect.filter (· ≠ p) }
  let s := if inJournal p ∧ s.get F.FL_ECMAX_EC < k then s.put F.FL_ECMAX_EC k else s
  let s := if 18000 ≤ k then s.setFlag F.FL_STAT_WEAR else s
  if 20000 ≤ k then s.setFlag F.FL_STAT_EOL else s

/-! ## Journal records (12 R283, 10 Table CAL-8) -/

/-- Byte address of record `r` of the journal, 128 records a page. -/
def recordAddr (page rec : Nat) : Nat := page * 4096 + rec * 32

/-- The CRC-32 in bytes 28 to 31 matches bytes 0 to 27. -/
def recordSealed (b : List Byte) : Bool := decide (b.length = 32) && decide (beNat (b.drop 28) = (crc32 (b.take 28)).toNat)

def isCalRecord (b : List Byte) : Bool := decide (b.take 2 = [0x43, 0x52]) && recordSealed b

def isLogRecord (b : List Byte) : Bool := decide (b.take 2 = [0x4C, 0x47]) && recordSealed b

def recordSeq (b : List Byte) : Nat := beNat ((b.drop 24).take 4)

/-- A record completed with its SEQ and CRC. -/
def sealRecord (b : List Byte) (seq : Nat) : List Byte :=
  let b := b.take 24 ++ beBytes 4 seq
  b ++ beBytes 4 (crc32 b).toNat

/-- Word k of a calibration record (00 R7 form, from byte 12 on). -/
def recordWord (b : List Byte) (k : Nat) : Word := BitVec.ofNat 18 (beNat ((b.drop (12 + 3 * k)).take 3))

/-- The coefficients a calibration record carries: curve-memory address and value (10 Tables CAL-8, CAL-9, R253). -/
def recordCoefs (b : List Byte) : List (Nat × Word) :=
  let x := (b.getD 3 0).toNat
  let set := 0x900 + 0x20 * (x / 64) + 4 * (x / 8 % 8)
  match (b.getD 2 0).toNat with
  | 0 => [(set, recordWord b 0)]
  | 1 => [(set + 1, recordWord b 1)]
  | 2 => [(set, recordWord b 0), (set + 1, recordWord b 1)]
  | 3 => ((List.range 4).filter fun n => x / 2 ^ (4 + n) % 2 == 1).map fun n => (0x980 + 8 * n + x % 8, recordWord b n)
  | 4 => [(0x9A0 + 4 * (x / 128) + x / 32 % 4, recordWord b 0)]
  | 5 => sys x
  | 6 => sys x
  | _ => []
where
  sys (x : Nat) : List (Nat × Word) :=
    let a := 0x200 + 4 * (x % 64)
    [(a, recordWord b 0), (a + 1, recordWord b 1), (a + 2, recordWord b 2)]

/-- Addresses of journal records whose first byte has been written, in ascending order. -/
def State.recordStarts (s : State) : List Nat :=
  (s.mem.flash.filter fun c => inJournal (c.1 / 4096) && decide (c.1 % 32 = 0)).map (·.1)

def State.recordAt (s : State) (a : Nat) : List Byte := s.flashBytes a 32

/-- Valid calibration records: address and bytes. -/
def State.calRecords (s : State) : List (Nat × List Byte) :=
  (s.recordStarts.map fun a => (a, s.recordAt a)).filter fun r => isCalRecord r.2

/-- The element with the largest key. -/
def largest {α : Type} (key : α → Nat) : List α → Option α
  | [] => none
  | x :: l =>
    match largest key l with
    | none => some x
    | some y => if key x < key y then some y else some x

/-- The value a coefficient has in the highest-SEQ valid record carrying it, with that record (10 R253). -/
def State.bestRecord (s : State) (addr : Nat) : Option (Nat × List Byte) :=
  largest (fun r => recordSeq r.2) (s.calRecords.filter fun r => (recordCoefs r.2).any fun c => decide (c.1 = addr))

/-- The k-th newest log record of a sector (12 Table MEM-6). -/
def newest (n : Sector) : Nat → List (List Byte) → Option (List Byte)
  | k, l =>
    match largest recordSeq (l.filter fun b => isLogRecord b && decide ((b.getD 2 0).toNat % 4 = n.val)) with
    | none => none
    | some b => match k with
      | 0 => some b
      | k + 1 => newest n k (l.filter fun c => decide (recordSeq c ≠ recordSeq b))

/-- Calibration records of a page that still carry a coefficient nobody newer carries (12 R284). -/
def State.keptRecords (s : State) (page : Nat) : List (List Byte) :=
  (s.calRecords.filter fun r => decide (r.1 / 4096 = page) &&
    (recordCoefs r.2).any fun c => match s.bestRecord c.1 with
      | some b => decide (b.1 = r.1)
      | none => false).map (·.2)

/-! ## The queue (12 R287, R288) -/

/-- An operation as it enters the queue. -/
def flashOp (op : Nat) (n : Sector) (gran hofs cnt : Nat) (data : List Byte) : FlashOp :=
  ⟨op, n, gran, hofs, cnt, 0, false, data, [], 0, false, 0, false, false⟩

/-- Operations held: active, suspended and queued. -/
def State.flashHeld (s : State) : List FlashOp := s.mem.factive.toList ++ s.mem.fsusp.toList ++ s.mem.fqueue

/-- The queue is full with two queued (02 Table CON-11: 1 active and 2 queued; FL_STAT.QCNT 0 to 2). DESIGN CHOICE
(notes/assumptions/89.md): the bound on the queued ones holds with none active too, and an erase suspended for a READ takes a queued place. -/
def State.flashFull (s : State) : Bool := decide (2 ≤ s.mem.fsusp.toList.length + s.mem.fqueue.length)

/-- An operation becomes active: FL_RES shows it for a sector's request, and a reclaim takes the records it is to move. -/
def State.activate (s : State) (o : FlashOp) : FlashOp × State :=
  let s := if o.op < 6 then s.put (F.FL_RES_STATE o.sec) 2 else s
  (if o.op = 7 then { o with moves := s.keptRecords (o.gran / 256) } else o, s)

/-- A LOAD at the front of the queue takes no booking, the loader reading flash directly (16 R384): it becomes active with only its completion
left, when no operation is active or suspended. Any other waits for its first FLASH booking (12 Table MEM-11). -/
def State.promoteLoad (s : State) : State :=
  if s.mem.factive.isSome || s.mem.fsusp.isSome then s else
  match s.mem.fqueue with
  | [] => s
  | o :: q => if o.op = 10 then s.onMem fun m => { m with factive := some { o with finished := true }, fqueue := q } else s

def State.enqueueFlash (s : State) (o : FlashOp) : State := (s.onMem fun m => { m with fqueue := m.fqueue ++ [o] }).promoteLoad

/-- Reclaims that wait take the entries that are free (12 R288). -/
def State.fillQueue (s : State) : State :=
  s.mem.reclaims.foldl (fun s p =>
    if s.flashFull then s
    else (s.onMem fun m => { m with reclaims := m.reclaims.erase p }).enqueueFlash (flashOp 7 0 (p * 256) 0 0 [])) s.promoteLoad

/-- A page is to be reclaimed; it takes an entry of the queue as soon as one is free. -/
def State.reclaimPage (s : State) (p : Nat) : State :=
  if p ∈ s.mem.reclaims ∨ s.flashHeld.any fun o => decide (o.op = 7 ∧ o.gran / 256 = p) then s
  else (s.onMem fun m => { m with reclaims := m.reclaims ++ [p] }).fillQueue

/-- Hamper words an operation touches. -/
def flashWords (op cnt : Nat) : Nat := if op = 1 then 8 * cnt else if op = 2 then 8 else if op = 4 then 10 else if op = 5 then 16 else 0

/-- The rights of Table MEM-5. -/
def flashAllowed (op : Nat) (n : Sector) (gran cnt : Nat) : Bool :=
  if op = 1 then decide (n = 0 ∧ gran + cnt ≤ 0x8000)
  else if op = 2 ∨ op = 3 then decide (n = 0) && !inJournal (gran / 256) else true

/-- The first failing check of Table MEM-7 at submission. -/
def State.flashCode (s : State) (n : Sector) (op gran hofs cnt : Nat) : Option Nat :=
  if s.flashFull then some 1
  else if s.flashHeld.any fun o => decide (o.sec = n ∧ o.op < 6) then some 2
  else if op = 0 ∨ 5 < op then some 3
  else if flashWords op cnt ≠ 0 ∧ 1024 * s.get (F.SEC_WIN_GLEN n) < hofs + flashWords op cnt then some 3
  else if !flashAllowed op n gran cnt then some 4
  else none

/-- A request of sector n by FL_CMDn = `v` (12 R287): suppressed, refused with a code and FDONE, or queued. -/
def State.submitFlash (s : State) (n : Sector) (v : Word) : State :=
  if !s.hasUnit n 14 then (s.setFlag (F.SEQ_XST_REGDN n)).bump (F.SEQ_XST_XCNT n)
  else if !s.holds n 14 then s.bump ⟨A.LOCK_NH, 4 * n + 3, 4 * n⟩ else
  let op := v.toNat / 2 ^ 15
  let cnt := v.toNat / 2 ^ 9 % 64 + 1
  let gran := s.get (F.FL_ADDR_GRAN n)
  let hofs := s.get (F.FL_HOFS_HOFS n)
  match s.flashCode n op gran hofs cnt with
  | some k =>
    let s := s.put (F.FL_RES_CODE n) k
    let s := if s.flashHeld.any (fun o => decide (o.sec = n ∧ o.op < 6)) then s else s.put (F.FL_RES_STATE n) 3
    s.raise n 24
  | none => ((s.put (F.FL_RES_STATE n) 1).put (F.FL_RES_CODE n) 0).enqueueFlash (flashOp op n gran hofs cnt [])

/-- Queued requests of a sector are removed by its reset or the loss of lock 14 (05 Table SEC-5, 12 Table MEM-7 code 7). DESIGN CHOICE
(notes/assumptions/90.md): the forced idle of lock 14 removes those of the sector that held it, and no other sector's. -/
def State.removeFlash (s : State) (n : Sector) : State :=
  let mine (o : FlashOp) : Bool := decide (o.sec = n ∧ o.op < 6)
  if s.mem.fqueue.any mine then
    let s := (s.onMem fun m => { m with fqueue := m.fqueue.filter fun o => !mine o }).fillQueue
    ((s.put (F.FL_RES_STATE n) 3).put (F.FL_RES_CODE n) 7).raise n 24
  else s

/-! ## Bookings (12 R289) -/

/-- Two bytes of a Hamper word, most significant first. -/
def halfBytes (w : Word) : List Byte := beBytes 2 (w.toNat % 65536)

/-- Words from a sector's window, each as two bytes. -/
def windowBytes (n : Sector) (ofs : Nat) : Nat → State → List Byte × State
  | 0, s => ([], s)
  | k + 1, s =>
    let (w, s) := s.loadAt n (BitVec.ofNat 18 ofs)
    let (l, s) := windowBytes n (ofs + 1) k s
    (halfBytes w ++ l, s)

/-- Bytes into a sector's window, two a word. -/
def bytesToWindow (n : Sector) (ofs : Nat) : List Byte → State → State
  | a :: b :: l, s => bytesToWindow n (ofs + 1) l (s.storeAt n (BitVec.ofNat 18 ofs) (BitVec.ofNat 18 (a.toNat * 256 + b.toNat)))
  | _, s => s

def State.setActive (s : State) (o : Option FlashOp) : State := s.onMem fun m => { m with factive := o }

/-- The journal's place for the next record. -/
def State.headAddr (s : State) : Nat := recordAddr (s.get F.FL_JRNL_HEADPG) (s.get F.FL_JRNL_HEADREC)

/-- The page after a journal page, around the ring. -/
def nextPage (p : Nat) : Nat := if 119 ≤ p then 64 else p + 1

/-- A record has filled its place: the head moves on; when its page is full, to the next page, and the page after that is to be reclaimed
(12 R284). -/
def State.advanceHead (s : State) : State :=
  let r := s.get F.FL_JRNL_HEADREC + 1
  if r < 128 then s.put F.FL_JRNL_HEADREC r else
  let p := nextPage (s.get F.FL_JRNL_HEADPG)
  ((s.put F.FL_JRNL_HEADREC 0).put F.FL_JRNL_HEADPG p).reclaimPage (nextPage p)

/-- The bytes of a log record's granule `g` (0 or 1), read from the window; SEQ is given with the second. -/
def State.appendGranule (s : State) (o : FlashOp) : FlashOp × State :=
  if o.step = 0 then
    let (l, s) := windowBytes o.sec o.hofs 6 s
    ({ o with data := [0x4C, 0x47, BitVec.ofNat 8 o.sec.val, 0] ++ l, busy := true }, s)
  else
    let (l, s) := windowBytes o.sec (o.hofs + 6) 4 s
    let seq := s.mem.jseq
    ({ o with data := sealRecord (o.data ++ l) seq, busy := true }, s.onMem fun m => { m with jseq := seq + 1 })

/-- A calibration record's granule: SEQ is given with the first (10 Table CAL-8). -/
def State.storeGranule (s : State) (o : FlashOp) : FlashOp × State :=
  if o.step = 0 then
    let seq := s.mem.jseq
    ({ o with data := sealRecord o.data seq, busy := true }, s.onMem fun m => { m with jseq := seq + 1 })
  else ({ o with busy := true }, s)

/-- A reclaim's booking: the next granule of a record to move, or the erase. -/
def State.reclaimGranule (s : State) (o : FlashOp) : FlashOp × State :=
  match o.moves with
  | [] => ({ o with busy := true, step := 0, data := [] }, s)
  | r :: _ =>
    if o.step = 0 then
      let seq := s.mem.jseq
      ({ o with data := sealRecord r seq, busy := true }, s.onMem fun m => { m with jseq := seq + 1 })
    else ({ o with busy := true }, s)

/-- The next granule of an image WRITE (13 R309): its programming starts, or it is left with code 5 when it is not erased. -/
def State.imageGranule (s : State) (o : FlashOp) : FlashOp :=
  if (s.flashBytes (16 * (o.gran + o.step)) 16).any fun b => decide (b ≠ 0xFF) then
    { o with step := o.step + 1, code := if o.code = 0 then 5 else o.code, finished := decide (o.cnt ≤ o.step + 1) }
  else { o with busy := true }

/-- The page that the active operation is about to program first: a journal page counts as used from its first record on. -/
def State.pageToUse (s : State) (o : FlashOp) : Option Nat :=
  if o.op = 2 then some (o.gran / 256)
  else if o.op = 8 then some ((o.gran + o.step) / 256)
  else if (o.op = 4 ∨ o.op = 6 ∨ (o.op = 7 ∧ o.moves ≠ [])) ∧ o.step = 0 ∧ s.get F.FL_JRNL_HEADREC = 0 then some (s.get F.FL_JRNL_HEADPG)
  else none

/-- The operation must first erase a SUSPECT page (12 R285). -/
def State.erasesFirst (s : State) (o : FlashOp) : Bool :=
  match s.pageToUse o with
  | some p => decide (p ∈ s.mem.suspect)
  | none => false

/-- One action for the active operation (12 R289); a SUSPECT page is erased before it is used (12 R285). -/
def State.flashAction (s : State) (o : FlashOp) : State :=
  if s.erasesFirst o then s.setActive (some { o with busy := true, erasing := true }) else
  match o.op with
  | 1 =>
    let s := bytesToWindow o.sec (o.hofs + 8 * o.step) (s.flashBytes (16 * (o.gran + o.step)) 16) s
    s.setActive (some { o with step := o.step + 1, finished := decide (o.cnt ≤ o.step + 1) })
  | 2 =>
    if (s.flashBytes (16 * o.gran) 16).any fun b => decide (b ≠ 0xFF) then s.setActive (some { o with code := 5, finished := true })
    else
      let (l, s) := windowBytes o.sec o.hofs 8 s
      s.setActive (some { o with data := l, busy := true })
  | 3 => s.setActive (some { o with busy := true })
  | 4 => let (o, s) := s.appendGranule o; s.setActive (some o)
  | 5 =>
    match newest o.sec (o.gran % 128) (s.recordStarts.map s.recordAt) with
    | none => s.setActive (some { o with code := 8, finished := true })
    | some b => (bytesToWindow o.sec o.hofs b s).setActive (some { o with finished := true })
  | 6 => let (o, s) := s.storeGranule o; s.setActive (some o)
  | 8 => s.setActive (some (s.imageGranule o))
  | 9 => s.setActive (some { o with busy := true })
  | 10 => s
  | _ => let (o, s) := s.reclaimGranule o; s.setActive (some o)

/-- The operation a FLASH booking acts for, and the state with it active (12 R288, R295): the active one unless the array still works; else
the READ or RECENT for which an erase is suspended; else a suspended erase; else the front of the queue. -/
def State.flashNext (s : State) : Option (FlashOp × State) :=
  let front (o : FlashOp) (q : List FlashOp) : FlashOp × State :=
    let (o, s) := s.activate o
    (o, s.onMem fun m => { m with factive := some o, fqueue := q, fwaits := false })
  match s.mem.factive, s.mem.fsusp, s.mem.fqueue with
  | some o, _, _ => if o.busy || o.finished then none else some (o, s)
  | none, none, [] => none
  | none, none, o :: q => if o.op = 10 then none else some (front o q)
  | none, some e, q =>
    match q with
    | o :: q => if s.mem.fwaits && decide (o.op = 1 ∨ o.op = 5) then some (front o q)
      else some (e, s.onMem fun m => { m with factive := some e, fsusp := none })
    | [] => some (e, s.onMem fun m => { m with factive := some e, fsusp := none })

/-- A FLASH booking is requested: by an operation that becomes active with it, and by an active one while the FLASH domain is ON. -/
def State.flashPending (s : State) : Option Sector :=
  if s.isOn .flash ∨ s.mem.factive = none then s.flashNext.map (·.1.sec) else none

/-- Cycles a FLASH booking may take: those of the running slot, or, while the host port is served directly, its own (13 R303). -/
def State.flashRoom (s : State) : Nat := if s.host.direct && s.host.txn.inFlash && s.isOn .core then 48 else s.slotRoom 5

/-- A FLASH booking. The one in which an operation becomes active acts for it too where the FLASH domain is ON; elsewhere the floor of 06
Table PWR-5, which an active operation sets, raises the domain first (notes/assumptions/64.md). -/
def execFlashBooking (s : State) : Host.Outcome State Fault Refusal :=
  if s.flashRoom < 48 ∨ s.flashPending = none then .next s else
  match s.flashNext with
  | none => .next s
  | some (o, s') => .next ((if s.isOn .flash then s'.flashAction o else s').book o.sec 48)

/-! ## Array steps and completion (12 R289, R295) -/

/-- Bytes left by a step that failed verification. -/
def freeBytes : Nat → State → List Byte × State
  | 0, s => ([], s)
  | k + 1, s =>
    let (i, s) := s.fresh
    let (l, s) := freeBytes k s
    (Config.flashByte i :: l, s)

/-- A granule's 16 bytes written, or left as they may be when verification failed. -/
def State.programGranule (s : State) (a : Nat) (l : List Byte) (ok : Bool) : State :=
  if ok then s.putFlash a l else let (f, s) := freeBytes 16 s; s.putFlash a f

/-- MEM 02h: a verification failure (12 Table MEM-4). -/
def State.logVerify (s : State) (o : FlashOp) (gran : Nat) : State := s.log 5 o.sec (gran / 256) 2 gran

/-- The granule of a record being written: of the one at the head, its first or second. -/
def State.recordGranule (s : State) (o : FlashOp) : Nat := s.headAddr + 16 * o.step

/-- One granule of a record is programmed. -/
def State.recordStep (s : State) (o : FlashOp) (ok : Bool) : State × FlashOp :=
  let a := s.recordGranule o
  let l := if o.step = 0 then o.data.take 16 else (o.data.drop 16).take 16
  let s := s.programGranule a l ok
  let s := if ok then s else s.logVerify o (a / 16)
  (s, { o with busy := false, step := o.step + 1, code := if ok then o.code else 6 })

/-- An erase's step: the page, then its info granule. -/
def State.eraseStep (s : State) (o : FlashOp) (ok : Bool) : State × FlashOp :=
  let p := o.gran / 256
  let s := if ok then s else s.logVerify o o.gran
  let code := if ok then o.code else 6
  if o.step = 0 then
    let s := s.erasePage p
    let s := if ok then s else let (f, s) := freeBytes 4096 s; s.putFlash (p * 4096) f
    (s.onMem fun m => { m with infoBad := p :: m.infoBad.filter (· ≠ p) }, { o with step := 1, code := code })
  else (s.putErases p (s.eraseCount p + 1), { o with busy := false, finished := true, code := code })

/-- A SUSPECT page and its info granule are erased before the page's use; where that fails verification, the operation ends with code 6. -/
def State.suspectErased (s : State) (o : FlashOp) (ok : Bool) : State × FlashOp :=
  match s.pageToUse o with
  | none => (s, { o with busy := false, erasing := false })
  | some p =>
    let s := s.erasePage p
    let s := if ok then s else let (f, s) := freeBytes 4096 s; (s.putFlash (p * 4096) f).logVerify o (p * 256)
    (s.putErases p (s.eraseCount p + 1), { o with busy := false, erasing := false, finished := !ok, code := if ok then o.code else 6 })

/-- A granule of an image WRITE is programmed; a WRITE whose transaction was aborted ends with it (13 R304). -/
def State.imageStep (s : State) (o : FlashOp) (ok : Bool) : State × FlashOp :=
  let a := o.gran + o.step
  let s := s.programGranule (16 * a) ((o.data.drop (16 * o.step)).take 16) ok
  let s := if ok then s else s.logVerify o a
  (s, { o with busy := false, step := o.step + 1, good := o.good + bit ok, finished := decide (o.cnt ≤ o.step + 1),
               code := if ok || decide (o.code ≠ 0) then o.code else 6 })

/-- The array finishes a step, well or failing verification (12 R289, Table MEM-7 code 6). -/
def execFlashArrayStepDone (ok : Bool) (s : State) : Host.Outcome State Fault Refusal :=
  match s.mem.factive with
  | none => .next s
  | some o =>
    if !o.busy then .next s
    else if o.erasing then let (s, o) := s.suspectErased o ok; .next (s.setActive (some o)) else
    match o.op with
    | 2 =>
      let s := s.programGranule (16 * o.gran) o.data ok
      let s := if ok then s else s.logVerify o o.gran
      .next (s.setActive (some { o with busy := false, finished := true, code := if ok then 0 else 6 }))
    | 3 => let (s, o) := s.eraseStep o ok; .next (s.setActive (some o))
    | 8 => let (s, o) := s.imageStep o ok; .next (s.setActive (some o))
    | 9 => let (s, o) := s.eraseStep o ok; .next (s.setActive (some o))
    | 7 =>
      match o.moves with
      | [] => let (s, o) := s.eraseStep o ok; .next (s.setActive (some o))
      | _ :: rest =>
        let (s, o) := s.recordStep o ok
        if o.step = 2 then .next ((s.setActive (some { o with step := 0, moves := rest })).advanceHead)
        else .next (s.setActive (some o))
    | _ =>
      let (s, o) := s.recordStep o ok
      .next (s.setActive (some { o with finished := decide (2 ≤ o.step) }))

/-- A READ or RECENT at the front suspends an active erase, and becomes active at its first FLASH booking; the erase resumes at the next FLASH
booking after it (12 R288). -/
def execEraseSuspend (s : State) : Host.Outcome State Fault Refusal :=
  match s.mem.factive, s.mem.fqueue with
  | some e, o :: _ =>
    let erasing := decide (e.op = 3 ∨ e.op = 9 ∨ (e.op = 7 ∧ e.moves = [])) && e.busy && decide (e.step = 0)
    if erasing && decide (o.op = 1 ∨ o.op = 5) then
      .next (s.onMem fun m => { m with factive := none, fsusp := some { e with busy := false }, fwaits := true })
    else .next s
  | _, _ => .next s

/-- The port lets its image operation go (13 R304): one that waits is removed, a granule in its booking completes, an erase that has
started goes on. -/
def State.orphanImage (s : State) : State :=
  let cut (o : FlashOp) : Option FlashOp :=
    if !o.port then some o
    else if !o.busy then none
    else some { o with port := false, cnt := if o.op = 8 then o.step + 1 else o.cnt }
  (s.onMem fun m =>
    { m with fqueue := m.fqueue.filterMap cut, factive := m.factive.bind cut,
             fsusp := m.fsusp.map fun o => { o with port := false } }).fillQueue

/-- The answer word of an image WRITE or ERASE (13 R309): its code, and the granules programmed. -/
def FlashOp.imageWord (o : FlashOp) : Word := BitVec.ofNat 18 (o.code % 16 * 4096 + o.good % 4096)

/-- The flash array programs or erases (07 Table NRG-1). -/
def State.flashWorking (s : State) : Bool :=
  match s.mem.factive with
  | some o => o.busy
  | none => false

end Sys2Proof.Machine
end

