-- ==== Sys2Proof/Machine/Memory.lean ====
section
/-! DEFINITION. Scrubbing, Thermos with the words that mirror registers, the violation log, and OTP (12 R275 to R281, R291 to R294). -/

namespace Sys2Proof.Machine

/-! ## Bit flips and scrubbing (12 R275, R277, 03 R80) -/

/-- Bit flips that have come about in Hamper, by physical word. -/
def State.flipHamper (s : State) (l : List (Nat × Upset)) : State :=
  s.onMem fun m => { m with upset := l.foldl (fun u c => if c.1 < 65536 then storeWrite (fun _ => .none) u c.1 c.2 else u) m.upset }

def State.setUpset (s : State) (p : Nat) (u : Upset) : State :=
  s.onMem fun m => { m with upset := storeWrite (fun _ => .none) m.upset p u }

/-- Rewrite the queued words; one damaged further since stays. -/
def State.drainWriteBack (s : State) : State :=
  let s' := s.mem.writeBack.foldl (fun s p => if s.hamperUpset p = .single then s.setUpset p .none else s) s
  s'.onMem fun m => { m with writeBack := [] }

/-- Rewrite the corrected bundles queued for instruction memory. -/
def State.drainImemFix (s : State) : State :=
  let u := s.eng.imemFix.foldl (fun u p => if storeRead (fun _ => Upset.none) u p = .single then storeWrite (fun _ => .none) u p .none else u)
    s.eng.imemUpset
  { s with eng := { s.eng with imemFix := [], imemUpset := u } }

/-- A scrub finds a word it can correct, and writes it back. -/
def State.scrubCorrected (s : State) (p : Nat) : State :=
  (((s.setFlag F.MEM_HECC_SBE).bump F.MEM_HECC_SCNT).put F.MEM_HEADDR_ADDR p).setUpset p .none

/-- A scrub finds an uncorrectable word. -/
def State.scrubDamaged (s : State) (p : Nat) : State :=
  (((s.setFlag F.MEM_HECC_SDED).bump F.MEM_HECC_DCNT).put F.MEM_HEADDR_ADDR p).log 5 (s.granuleSector (p / 1024)) (p / 8192) 1 p

def State.scrubWord (s : State) (p : Nat) : State :=
  match s.hamperUpset p with
  | .none => s
  | .single => s.scrubCorrected p
  | .double => s.scrubDamaged p
  | .beyond =>
    let (k, s) := s.fresh
    match Config.beyondEccKind k with
    | 0 => (s.writeHamper p (Config.beyondEccWord k)).scrubCorrected p
    | 1 => s.scrubDamaged p
    | 2 => s

/-- The pointer moved to `p`, past FFFFh to 0 with a pass completed. -/
def State.setScrubPtr (s : State) (p : Nat) : State :=
  if p < 65536 then s.put F.MEM_SCRUB_PTR p else (s.put F.MEM_SCRUB_PTR 0).bump F.MEM_SCRPASS_PASS

/-- Skip banks that are not ON, at most all eight. -/
def State.skipBanks : Nat → State → State
  | 0, s => s
  | k + 1, s =>
    let p := s.get F.MEM_SCRUB_PTR
    if h : p / 8192 < 8 then
      if s.isOn (.hb ⟨p / 8192, h⟩) then s else State.skipBanks k (s.setScrubPtr ((p / 8192 + 1) * 8192))
    else s

/-- 16 words from the pointer, where it stands in a bank that is ON; a pointer that reaches a bank that is not goes on at once. -/
def State.scrubRun (s : State) : State :=
  let s := s.skipBanks 8
  let p := s.get F.MEM_SCRUB_PTR
  if h : p / 8192 < 8 then
    if s.isOn (.hb ⟨p / 8192, h⟩) then
      (((List.range 16).foldl (fun s j => s.scrubWord (p + j)) s).setScrubPtr (p + 16)).skipBanks 8
    else s
  else s

/-- SCRUB is requested: enabled, or write-backs wait (12 R277). -/
def State.scrubPending (s : State) : Bool := s.isSet F.MEM_SCRUB_EN || !s.mem.writeBack.isEmpty || !s.eng.imemFix.isEmpty

/-- A SCRUB booking of 40 cycles (02 Table CON-7); `flips` are the Hamper words whose bits have flipped since. -/
def execScrubBooking (flips : List (Nat × Upset)) (s : State) : Host.Outcome State Fault Refusal :=
  let s := s.flipHamper flips
  if s.slotRoom 6 < 40 ∨ !s.scrubPending then .next s else
  let s := (s.drainWriteBack).drainImemFix
  .next ((if s.isSet F.MEM_SCRUB_EN then s.scrubRun else s).book 0 40)

/-! ## The violation log (12 R280, R281) -/

def fLogHead : Fld := ⟨0x40, 17, 12⟩
def fLogCnt : Fld := ⟨0x40, 11, 6⟩
def fLogOvw : Fld := ⟨0x40, 5, 3⟩

/-- A queued request is written at HEAD. -/
def execLogEntryWrite (s : State) : Host.Outcome State Fault Refusal :=
  match s.mem.logq with
  | [] => .next s
  | r :: rest =>
    let s := s.onMem fun m => { m with logq := rest }
    let w := s.thermosWord 0x40
    let h := fLogHead.of w
    let a := 0x60 + 3 * (h % 32)
    let s := s.setThermos a (BitVec.ofNat 18 r.tick)
    let s := s.setThermos (a + 1) (BitVec.ofNat 18 (r.cls % 16 * 2 ^ 14 + r.sec % 4 * 2 ^ 12 + r.idx % 64 * 64 + r.code % 64))
    let s := s.setThermos (a + 2) r.detail
    let s := (s.setThermos 0x41 (BitVec.ofNat 18 (r.tick / 2 ^ 18))).setThermos 0x42 (BitVec.ofNat 18 r.tick)
    let w := fLogHead.into w ((h + 1) % 32)
    let c := fLogCnt.of w
    let w := if c < 32 then fLogCnt.into w (c + 1) else fLogOvw.into w (Nat.min (fLogOvw.of w + 1) 7)
    .next (s.setThermos 0x40 w)

/-- CLR: CNT, OVW and DROP become 0. -/
def State.clearLog (s : State) : State := s.setThermos 0x40 (s.thermosWord 0x40 &&& 0x3F000)

/-- The three fields of MEM_VLOG as they read. -/
def State.vlogWord (s : State) : Word :=
  let w := s.thermosWord 0x40
  BitVec.ofNat 18 (fLogHead.of w % 32 * 2 ^ 12 + fLogCnt.of w * 64 + fLogOvw.of w * 8 + fLogDrop.of w)

/-! ## Thermos as it reads (12 Table MEM-1) -/

/-- Copy `c` of a register whose three copies lie in Thermos (11, 13 R312). -/
def State.copyOf (s : State) (a c : Nat) : Word :=
  match s.flips.find? (fun f => decide (f.addr = a)) with
  | none => s.word a
  | some f => s.word a ^^^ (if c = 0 then f.a else if c = 1 then f.b else f.c)

/-- A word's address is one that Table MEM-1 lists. -/
def thermosListed (a : Nat) : Bool :=
  decide (a ≤ 8) || decide (0x10 ≤ a ∧ a ≤ 0x13) || decide (a = 0x18 ∨ a = 0x19) || decide (0x20 ≤ a ∧ a ≤ 0x25) ||
  decide (0x30 ≤ a ∧ a ≤ 0x3B) || decide (0x40 ≤ a ∧ a ≤ 0x42) || decide (0x60 ≤ a ∧ a < 0x100)

/-- A Thermos word as it reads: words 020h to 025h and 030h to 03Bh are held by the registers and the ledger they mirror. -/
def State.thermosRead (s : State) (a : Nat) : Word :=
  if !thermosListed a then 0
  else if 0x20 ≤ a ∧ a ≤ 0x23 then s.word ([A.LDG_ETOTH, A.LDG_ETOTL, A.LDG_STOREH, A.LDG_STOREL].getD (a - 0x20) 0)
  else if a = 0x24 then s.ldg.staged.getD 0
  else if a = 0x25 then
    BitVec.ofNat 18 (bit s.ldg.staged.isSome * 2 ^ 17 + s.get F.THERM_CHAT_CRITCNT * 64 + s.get F.LDG_STAT_L)
  else if 0x30 ≤ a ∧ a ≤ 0x3B then
    s.copyOf ([A.OUT_DISP, A.OUT_AOSAFE 0, A.OUT_AOSAFE 1, A.OUT_SHCTL].getD ((a - 0x30) / 3) 0) ((a - 0x30) % 3)
  else s.thermosWord a

def State.stepThermosPtr (s : State) : State := s.put F.MEM_THP_PTR (s.get F.MEM_THP_PTR + 1)

/-- A read through MEM_THD. -/
def State.readThd (s : State) : Word × State := (s.thermosRead (s.get F.MEM_THP_PTR), s.stepThermosPtr)

/-- A write through MEM_THD by an accessor with sector 0's authority: it reaches only the user area; elsewhere it is discarded. Whether it
was discarded, and the state. -/
def State.writeThd (s : State) (acc : Accessor) (v : Word) : Bool × State :=
  let a := s.get F.MEM_THP_PTR
  if 0xC0 ≤ a ∧ a < 0x100 then (false, (s.setThermos a v).stepThermosPtr)
  else (true, (s.refused acc).stepThermosPtr)

/-! ## OTP (12 R291 to R293) -/

/-- An OTP byte as MEM_OTPD shows it. -/
def State.otpShown (s : State) (a : Nat) : Byte :=
  if a = 0x40 ∨ (0x48 ≤ a ∧ a < 0x60) ∨ (0x100 ≤ a ∧ a < 0x800) then s.otpByte a else 0

/-- A byte is programmable (12 Table MEM-8). -/
def State.otpOpen (s : State) (a : Nat) : Bool :=
  if a < 0x40 then !s.keyLocked (a / 16)
  else if a = 0x40 then true
  else if (0x50 ≤ a ∧ a < 0x60) ∨ (0x600 ≤ a ∧ a < 0x800) then !s.boot.policy.otplock
  else false

def State.stepOtpPtr (s : State) : State := s.put F.MEM_OTPA_ADDR (s.get F.MEM_OTPA_ADDR + 1)

def State.readOtpd (s : State) : Word × State := ((s.otpShown (s.get F.MEM_OTPA_ADDR)).setWidth 18, s.stepOtpPtr)

/-- A permitted, keyed write of MEM_OTPD: programming starts, or FAIL sets (12 R293). -/
def State.writeOtpd (s : State) (v : Word) : State :=
  let a := s.get F.MEM_OTPA_ADDR
  if s.isSet F.MEM_OTPST_BUSY ∨ !s.otpOpen a ∨ s.ldg.vsysLow then (s.setFlag F.MEM_OTPST_FAIL).stepOtpPtr
  else ((s.onMem fun m => { m with otpPend := some (a, v.setWidth 8) }).setFlag F.MEM_OTPST_BUSY).stepOtpPtr

/-- 100 µs later: the byte holds the bits programmed into it, and BUSY clears. -/
def execOtpProgramDone (s : State) : Host.Outcome State Fault Refusal :=
  match s.mem.otpPend with
  | none => .next s
  | some (a, v) =>
    let o := storeWrite (fun _ => 0) s.mem.otp a (s.otpByte a ||| v)
    .next ((s.onMem fun m => { m with otp := o, otpPend := none }).put F.MEM_OTPST_BUSY 0)

end Sys2Proof.Machine
end

