-- ==== Sys2Proof/Machine/PowerOps.lean ====
section
/-! DEFINITION. Power manager operations shared by every unit: votes and their resolution (06 R143, R144), wakes and the wake record
(06 R152 to R155), the PLL and the fast crystal (06 R129, R134). -/

namespace Sys2Proof.Machine

/-! ## States and votes -/

/-- Rank of a state: ON > RET > OFF (06 R144). -/
def DomState.rank : DomState → Nat
  | .off => 0 | .ret => 1 | .on => 2

def DomState.max (a b : DomState) : DomState := if a.rank ≤ b.rank then b else a

/-- Code of a state in PWR_STAT: 01b OFF, 10b RET, 11b ON (06 Table PWR-10). -/
def DomState.code : DomState → Nat
  | .off => 1 | .ret => 2 | .on => 3

/-- A 2-bit vote: 00b NONE, 01b OFF, 10b RET, 11b ON (06 R143). -/
def voteOf (v : Nat) : Option DomState :=
  if v = 1 then some .off else if v = 2 then some .ret else if v = 3 then some .on else none

/-- All domains in the order of Table PWR-2. -/
def allDoms : List Dom :=
  [.core, .imem, .hb 0, .hb 1, .hb 2, .hb 3, .hb 4, .hb 5, .hb 6, .hb 7, .lane 0, .lane 1, .lane 2, .lane 3,
   .exc, .tia, .aout, .fsw, .net, .twin, .flash, .host]

/-- Class W: CORE, IMEM and the banks (06 R141). -/
def domIsW : Dom → Bool
  | .core => true | .imem => true | .hb _ => true | _ => false

/-- The domain's two bits in a set of vote words: register 0 to 2 and low bit (06 Table PWR-9). -/
def domVotePlace : Dom → Nat × Nat
  | .core => (0, 0) | .imem => (0, 2)
  | .hb k => if k.val < 7 then (0, 4 + 2 * k.val) else (1, 0)
  | .lane i => (1, 2 + 2 * i.val)
  | .exc => (1, 10) | .tia => (1, 12) | .aout => (1, 14) | .fsw => (1, 16)
  | .net => (2, 0) | .twin => (2, 2) | .flash => (2, 4) | .host => (2, 6)

/-- A domain's 2-bit field in a set of vote words. -/
def Votes.field (v : Votes) (d : Dom) : Nat :=
  let p := domVotePlace d
  let w := if p.1 = 0 then v.a else if p.1 = 1 then v.b else v.c
  w.toNat / 2 ^ p.2 % 4

/-- A sector's PWR_REQ registers as written. -/
def State.requests (s : State) (n : Sector) : Votes :=
  ⟨s.word (A.PWR_REQA n), s.word (A.PWR_REQB n), s.word (A.PWR_REQC n)⟩

/-- A sector's vote for a domain: class W as latched, class I as written (06 R143). -/
def State.vote (s : State) (n : Sector) (d : Dom) : Option DomState :=
  voteOf ((if domIsW d then s.pwr.votes[n] else s.requests n).field d)

/-- The sector's Hamper window holds a granule of bank k. -/
def State.windowTouches (s : State) (n : Sector) (k : Nat) : Bool :=
  let b := s.get (F.SEC_WIN_GBASE n)
  let l := s.get (F.SEC_WIN_GLEN n)
  decide (0 < l ∧ b < 8 * k + 8 ∧ 8 * k < b + l)

/-- Whether a guest's vote counts for a domain (06 Table PWR-4); sector 0's always does. -/
def State.counts (s : State) (n : Sector) (d : Dom) : Bool :=
  decide (n = 0) ||
  match d with
  | .core | .imem => s.isSet (F.SEC_CTL_IMG n)
  | .hb k => s.windowTouches n k
  | .lane i => s.hasLane n i
  | .exc => (List.range 5).any (s.hasUnit n ·)
  | .tia => s.hasUnit n 5 || s.hasUnit n 6
  | .aout => s.hasUnit n 8 || s.hasUnit n 9
  | .fsw => [10, 11, 12, 13].any (s.hasUnit n ·)
  | .flash => s.hasUnit n 14
  | .net => s.secs[n].grant2.getLsbD 2
  | .twin => s.secs[n].grant2.getLsbD 3
  | .host => true

/-- The state a domain has when every counted vote is NONE (06 Table PWR-2). -/
def domUnvoted : Dom → DomState
  | .core | .imem | .host => .ret
  | _ => .off

/-- The highest counted vote (06 R144). -/
def State.resolved (s : State) (d : Dom) : DomState :=
  let vs := sectors.filterMap fun n => if s.counts n d then s.vote n d else none
  match vs with
  | [] => domUnvoted d
  | v :: rest => rest.foldl DomState.max v

def State.setDom (s : State) (d : Dom) (x : DomSt) : State := { s with pwr := { s.pwr with dom := s.pwr.dom.set (domIndex d) x } }

/-- A new target meets a transition in progress (06 R150): it becomes the pending request, replaces one that was there, or clears it when
it is what the transition already goes to. With no transition in progress the start waits for its own command. -/
def State.retarget (s : State) (d : Dom) (t : DomState) : State :=
  let x := s.dom d
  match x.moving with
  | none => s
  | some m =>
    if t = m then
      match x.pend with
      | none => s
      | some _ => (s.setDom d { x with pend := none }).bump F.PWR_REPLACED_COUNT
    else
      match x.pend with
      | none => s.setDom d { x with pend := some t }
      | some p => if p = t then s else (s.setDom d { x with pend := some t }).bump F.PWR_REPLACED_COUNT

/-! ## Clocks -/

/-- The PLL starts: the crystal is in RUN and the phase counter begins at the lock (06 R129, R134). -/
def State.pllOn (s : State) : State := { s with pwr := { s.pwr with pll := true, xtal := .run } }.setFlag F.CLK_STAT_PLLON

/-- The PLL stops, and with it the crystal leaves RUN: PLLON, PLLRDY and OSCRDY tell so (06 R129, Table PWR-12;
notes/assumptions/81.md). -/
def State.pllOff (s : State) : State :=
  ((({ s with pwr := { s.pwr with pll := false, xtal := if s.isSet F.CLK_CTL_XKEEP then .standby else .stop } }).put F.CLK_STAT_PLLON 0).put
    F.PWR_WAKE_STATUS_PLLRDY 0).put F.PWR_WAKE_STATUS_OSCRDY 0

/-- What a device reset that ends every wake leaves of the fast crystal: with the PLL it goes to STANDBY or STOP, one brought to RUN by a wake
does too, and a stopped one starts toward STANDBY under XKEEP (06 R129; notes/assumptions/66.md). -/
def State.restCrystal (s : State) : State :=
  if s.pwr.pll || decide (s.pwr.xtal = .run) then s.pllOff
  else if s.pwr.xtal = .stop ∧ s.isSet F.CLK_CTL_XKEEP then { s with pwr := { s.pwr with xtal := .starting } }
  else s

/-- The kind a wake would have now: 1 HOT, 2 WARM, 3 COLD (01 Table FRM-3, 06 Table PWR-12). -/
def State.wakeKind (s : State) : Nat :=
  if s.pwr.pll then 1 else match s.pwr.xtal with
  | .run | .standby => 2
  | .stop | .starting => 3

/-! ## The wake record (06 R155) -/

def putThermosTick (s : State) (a : Nat) : State :=
  (s.setThermos a (BitVec.ofNat 18 (s.tick / 2 ^ 18))).setThermos (a + 1) (BitVec.ofNat 18 s.tick)

/-- Write PWR_WAKESRC and the Thermos wake record. -/
def State.putWakeRecord (s : State) (set code : Nat) : State :=
  let s := (s.put F.PWR_WAKESRC_SET set).put F.PWR_WAKESRC_CODE code
  s.setThermos 0x10 (BitVec.ofNat 18 (set * 512 + code))

/-- Record a wake source (06 R155): a source of the recorded tick joins the record with the lowest code, one that a running wake meets
later joins with its bit alone, and any other makes a new record. `async` is KIND 4, asynchronous only, when no wake of the core runs. -/
def State.recordWake (s : State) (code : Nat) (async : Bool) : State :=
  let b := 2 ^ (code - 1)
  let running := match s.pwr.wake with
    | some k => k.core
    | none => false
  let old := s.get F.PWR_WAKESRC_SET
  let joined := if old / b % 2 = 1 then old else old + b
  if s.pwr.wakeRecTick = some s.tick then s.putWakeRecord joined (Nat.min (s.get F.PWR_WAKESRC_CODE) code)
  else if running then s.putWakeRecord joined (s.get F.PWR_WAKESRC_CODE)
  else
    let s := (s.putWakeRecord b code).put F.PWR_WAKETL_TICK s.tick
    let s := putThermosTick (s.put F.PWR_WAKETH_TICK (s.tick / 2 ^ 18)) 0x11
    let s := { s with pwr := { s.pwr with wakeRecTick := some s.tick } }
    if async then (s.put F.PWR_WAKE_STATUS_KIND 4).setThermos 0x13 4 else s

/-- A source that only sets an event (06 Table PWR-7, codes 2, 3, 7, 8) is recorded while its enable bit is 1. -/
def State.noteSource (s : State) (code bitNo : Nat) : State :=
  if s.get F.PWR_WAKEEN_EN / 2 ^ bitNo % 2 = 1 then s.recordWake code true else s

/-! ## Wakes (06 R152, R153) -/

/-- IMEM or a bank is called to ON where no memory stage will bring it up: it makes a transition of its own. -/
def State.callOn (s : State) (d : Dom) : State :=
  let x := s.dom d
  match x.moving with
  | some _ => s.retarget d .on
  | none => if x.state = .on then s else s.setDom d { x with moving := some .on, pend := none }

/-- A wake for segments of `secs` begins with CORE ON or past the memory stage, and so adds none (06 R153): IMEM and the banks of R145 are
called to ON. -/
def State.callMemories (s : State) (secs : List Sector) : State :=
  allDoms.foldl (fun s d =>
    match d with
    | .imem => if secs.isEmpty then s else s.callOn d
    | .hb k => if secs.any (fun n => s.windowTouches n k) && decide (s.resolved d ≠ .off) then s.callOn d else s
    | _ => s) { s with pwr := { s.pwr with awake := s.pwr.awake ++ secs } }

/-- The ready bits as a wake of the core that begins finds them: those of its own regulator, memory and logic stages clear (06 R152). -/
def State.clearReady (s : State) : State :=
  (((s.setFlag F.PWR_WAKE_STATUS_BUSY).put F.PWR_WAKE_STATUS_REGRDY 0).put F.PWR_WAKE_STATUS_MEMRDY 0).put F.PWR_WAKE_STATUS_LOGRDY 0

/-- A wake of the core begins for `secs`, from source `code` (0 where the source is none of Table PWR-7). It merges with a running wake;
while CORE is ON it adds no stages; otherwise its stages begin with the regulator, and the stages whose bit reads 1 from the start are
those the clock state allows. One that finds a lane's PLL start takes over its crystal and PLL, after a regulator stage of its own. -/
def State.startWake (s : State) (code : Nat) (secs : List Sector) : State :=
  let kind := s.wakeKind
  let coreWake := match s.pwr.wake with
    | some k => k.core
    | none => false
  if coreWake then
    let s := if code = 0 then s else s.recordWake code false
    if s.pwr.wake.any (fun k => decide (4 ≤ k.stage)) then s.callMemories secs
    else { s with pwr := { s.pwr with wake := s.pwr.wake.map fun k => { k with secs := k.secs ++ secs } } }
  else
    let s := if code = 0 then s else s.recordWake code false
    let s := (s.put F.PWR_WAKE_STATUS_KIND kind).setThermos 0x13 (BitVec.ofNat 18 kind)
    if s.isOn .core && (s.dom .core).moving.isNone then s.callMemories secs
    else match s.pwr.wake with
    | some _ => ({ s with pwr := { s.pwr with wake := some ⟨0, true, secs⟩, oscDead := false } }).clearReady.setFlag F.PWR_REGCTL_MODE
    | none =>
      let s := { s with pwr := { s.pwr with wake := some ⟨0, true, secs⟩, wakeAge := 0, oscDead := false } }
      let s := s.clearReady.put F.PWR_WAKE_STATUS_OSCRDY (bit (decide (s.pwr.xtal = .run)))
      (s.put F.PWR_WAKE_STATUS_PLLRDY (bit s.pwr.pll)).setFlag F.PWR_REGCTL_MODE

/-! ## Lanes and raises -/

/-- A command that needs the modulator (06 R147). -/
def LaneCmd.needsModulator : LaneCmd → Bool
  | .mode m _ => decide (2 ≤ m)
  | .trig => true
  | .chan _ _ => false
  | .swap => false

/-- A lane that needs MCLK: its mode is other than OFF or READY and its domain is not in RET (01 R20), or a command that needs the
modulator stands at the head of its queue and its vote lets the domain come ON for it (06 R148, R451). -/
def State.laneNeedsClock (s : State) (i : LaneId) : Bool :=
  (decide (1 < s.lanes[i].mode) && decide ((s.dom (.lane i)).state ≠ .ret)) ||
    (s.lanes[i].queue.head?.any LaneCmd.needsModulator && decide (s.resolved (.lane i) = .on))

def lanes4 : List LaneId := [0, 1, 2, 3]

/-- What a raise or an activity loads into the hold: HOLD × 32 ticks to pass in full, HOLD 0 acting as 1 (06 R154). -/
def State.holdTicks (s : State) : Nat := 32 * Nat.max 1 (s.get F.PWR_WAKEEN_HOLD) + 1

/-- Activity of HOST (0), TWIN (1) or NET (2) restarts the hold of a raise. -/
def State.touch (s : State) (k : Fin 3) : State :=
  if s.pwr.hold[k] = 0 then s else { s with pwr := { s.pwr with hold := s.pwr.hold.set k s.holdTicks } }

end Sys2Proof.Machine
end

