-- ==== Sys2Proof/Machine/Pins.lean ====
section
/-! DEFINITION. GP, WAKE and HIRQ# pins: functions, the parked phase, levels and edges (05 R122, 17 R394 to R400). -/

namespace Sys2Proof.Machine

/-! ## Levels driven (05 R122, 17 Table PIN-4) -/

/-- The lines routed to GP pin g with GPEN = 1 by the sector granted the pin, lowest number first, each with ACT and POL. -/
def State.linesTo (s : State) (g : Nat) : List (Bool × Bool) :=
  sectors.flatMap fun (n : Sector) => (List.range 4).filterMap fun k =>
    if s.hasGp n g && s.isSet (F.SEC_VRT_GPEN n k) && decide (s.get (F.SEC_VRT_GP n k) = g) then
      some (s.isSet (F.SEC_VRT_ACT n k), s.isSet (F.SEC_VRT_POL n k))
    else none

/-- The level of a VLINE pin: active while any line routed to it is, at the POL of the lowest; low where no line is routed. -/
def State.vlineLevel (s : State) (g : Nat) : Bool :=
  match s.linesTo g with
  | [] => false
  | l@((_, pol) :: _) => if l.any (·.1) then pol else !pol

/-- The level at a GP pad: what the keeper holds while parked, what the function drives, or the level recognised. -/
def State.padLevel (s : State) (g : Fin 8) : Bool :=
  if s.isSet (F.PIN_GP_PARK g) then s.pins.gpKeep[g]
  else match s.pins.gpFunc[g] with
    | 1 => s.isSet (F.PIN_GP_OUTV g)
    | 2 => s.isSet (F.PIN_GP_OUTV g) && s.isSet (F.PIN_GP_IN g)
    | 3 => s.vlineLevel g
    | _ => s.isSet (F.PIN_GP_IN g)

/-- HIRQ# is pulled low by a line routed to it, in any sector, and by a DONE answer under DIRQ (05 R122, 13 Table HST-6). -/
def State.hirqLow (s : State) : Bool :=
  (sectors.any fun (n : Sector) => (List.range 4).any fun k => s.isSet (F.SEC_VRT_ACT n k) && s.isSet (F.SEC_VRT_HIRQ n k)) ||
    (s.isSet F.HST_CFG_DIRQ && decide (s.host.state = 2))

/-! ## CLKOUT (06 R136, Table PWR-15) -/

/-- What CLKOUT carries: a level, or a running clock. -/
inductive ClkOut where
  | low | high | hiZ | fastCrystal | cclk64 | mclk0 | slowClock
  deriving DecidableEq, Repr

/-- CLKOUT follows CLK_OUT.SRC; when the source stops it holds low. The fast crystal is a source in RUN and in STANDBY, the CCLK and MCLK
sources while the PLL runs, and source 5 is high for the first tick of a frame. Before boot phase B6 the pin is low (16 Table RST-6), and
without VDDIO it is high-impedance (17 R394). -/
def State.clkOut (s : State) : ClkOut :=
  if !s.pins.vddio then .hiZ else if s.boot.phase < 6 then .low else
  match s.get F.CLK_OUT_SRC with
  | 1 => if s.pwr.xtal = .run ∨ s.pwr.xtal = .standby then .fastCrystal else .low
  | 2 => if s.pwr.pll then .cclk64 else .low
  | 3 => if s.pwr.pll then .mclk0 else .low
  | 4 => if s.boot.aon then .slowClock else .low
  | 5 => if s.sch.pulse then .high else .low
  | _ => .low

/-! ## Functions (17 R397, R398) -/

/-- A change of FUNC: the parked phase starts with the keeper at the present level; one that runs is not restarted. -/
def State.gpFunction (s : State) (g : Fin 8) (f : Nat) : State :=
  if s.get (F.PIN_GP_FUNC g) = f then s
  else if s.isSet (F.PIN_GP_PARK g) then s.put (F.PIN_GP_FUNC g) f
  else
    let l := s.padLevel g
    (({ s with pins := { s.pins with gpKeep := s.pins.gpKeep.set g l } }).setFlag (F.PIN_GP_PARK g)).put (F.PIN_GP_FUNC g) f

/-- The last-written function takes over at the end of c + 4. -/
def execGpParkEnd (g : Fin 8) (s : State) : Host.Outcome State Fault Refusal :=
  .next (
    if s.isSet (F.PIN_GP_PARK g) then
      ({ s with pins := { s.pins with gpFunc := s.pins.gpFunc.set g (s.get (F.PIN_GP_FUNC g)) } }).put (F.PIN_GP_PARK g) 0
    else s)

/-! ## Edges (17 R399, R400) -/

/-- EDGE selects an edge to `level`: bit 0 rising, bit 1 falling. -/
def edgeSelected (e : Nat) (level : Bool) : Bool := if level then e % 2 == 1 else e / 2 % 2 == 1

/-- A GP input has been at a new level for two samples: IN follows; an edge that EDGE selects on a pin in function IN sets event 27 in the
sector granted the pin and is wake source 7. -/
def execGpEdge (g : Fin 8) (level : Bool) (s : State) : Host.Outcome State Fault Refusal :=
  .next (
    if s.isSet (F.PIN_GP_IN g) = level then s else
    let s := (s.put (F.PIN_GP_IN g) (bit level)).put ⟨A.PIN_STAT, g, g⟩ (bit level)
    if s.pins.gpFunc[g] = 0 ∧ !s.isSet (F.PIN_GP_PARK g) ∧ edgeSelected (s.get (F.PIN_GP_EDGE g)) level then
      (s.raiseWhere (fun n => s.hasGp n g) 27).noteSource 7 5
    else s)

/-- WAKE has been at a new level for two samples: an edge of the polarity of WEDGE sets event 26 in the sectors granted WAKE and is wake
source 3. -/
def execWakePinEdge (level : Bool) (s : State) : Host.Outcome State Fault Refusal :=
  .next (
    if s.isSet F.PIN_STAT_WAKEL = level then s else
    let s := s.put F.PIN_STAT_WAKEL (bit level)
    let w := s.get F.PIN_CFG_WEDGE
    if decide (w = 2) || (if level then decide (w = 1) else decide (w = 0 ∨ w = 3)) then
      (s.raiseWhere (fun n => s.secs[n].grant2.getLsbD 4) 26).noteSource 3 1
    else s)

/-! ## VDDIO (17 R394) -/

/-- VDDIO falls: its pins are high-impedance, their latches keep function and level. -/
def execVddioLoss (s : State) : Host.Outcome State Fault Refusal := .next { s with pins := { s.pins with vddio := false } }

/-- VDDIO is back: the pins resume their latched states. -/
def execVddioResume (s : State) : Host.Outcome State Fault Refusal := .next { s with pins := { s.pins with vddio := true } }

end Sys2Proof.Machine
end

