-- ==== Sys2Proof/Machine/Curves.lean ====
section
/-! DEFINITION. The curve engine (10 R235 to R242): system correction, the curve functions in exact or fixed-point arithmetic, and the
mantissa. The error that Table CAL-4 allows curves 1 to 12 is a free value within its bound; curves 13 to 17 are computed as R237 and R240
state them (notes/assumptions/18.md). The thermocouples' reference functions, which spec/ does not state, are free. -/

namespace Sys2Proof.Machine

/-! ## Exact and fixed-point arithmetic -/

/-- n / d rounded half away from zero; d positive. -/
def roundDiv (n : Int) (d : Nat) : Int :=
  if 0 ≤ n then (2 * n + d).fdiv (2 * d) else -((2 * -n + d).fdiv (2 * d))

/-- n / d rounded half away from zero for a divisor of any sign. -/
def roundDivInt (n d : Int) : Int := if 0 ≤ d then roundDiv n d.toNat else roundDiv (-n) (-d).toNat

/-- Largest r with r² ≤ n, bit by bit from 2^k. -/
def sqrtFrom : Nat → Nat → Nat → Nat
  | 0, _, r => r
  | k + 1, n, r => sqrtFrom k n (if (r + 2 ^ k) * (r + 2 ^ k) ≤ n then r + 2 ^ k else r)

/-- Integer square root of numbers below 2^256. -/
def natSqrt (n : Nat) : Nat := sqrtFrom 128 n 0

/-- Fixed-point numbers carry 64 fraction bits. -/
def fxOne : Int := 2 ^ 64

def fxMul (a b : Int) : Int := (a * b).fdiv fxOne

def fxDiv (a b : Int) : Int := if b = 0 then 0 else (a * fxOne).fdiv b

def fxSqrt (a : Int) : Int := natSqrt ((a * fxOne).toNat)

/-- π with 64 fraction bits. -/
def fxPi : Int := 57952155664616982739

/-- ln 2 with 64 fraction bits. -/
def fxLn2 : Int := 12786308645202655660

/-- Σ (±1)^j t^(2j+1) / (2j+1), the series of atan and atanh, `k` terms from index `j` on. -/
def oddSeries (alternate : Bool) (t2 : Int) : Nat → Nat → Int → Int
  | 0, _, _ => 0
  | k + 1, j, p =>
    let term := p / (2 * j + 1 : Nat)
    (if alternate && j % 2 == 1 then -term else term) + oddSeries alternate t2 k (j + 1) (fxMul p t2)

/-- atan of a number in [0, ∞), after three halvings of the angle. -/
def fxAtan (t : Int) : Int :=
  let half (t : Int) := fxDiv t (fxOne + fxSqrt (fxOne + fxMul t t))
  let t := half (half (half t))
  8 * oddSeries true (fxMul t t) 24 0 t

/-- acos of a number in [-1, 1]. -/
def fxAcos (z : Int) : Int :=
  let w := fxSqrt (fxOne - fxMul z z)
  if z = 0 then fxPi / 2
  else if 0 < z then fxAtan (fxDiv w z)
  else fxPi - fxAtan (fxDiv w (-z))

/-- Natural logarithm of a positive number: powers of two taken off, then 2 atanh((m − 1) / (m + 1)). -/
def fxLn (x : Int) : Int :=
  let e : Int := (Nat.log2 x.toNat : Int) - 64
  let m := if 0 ≤ e then x / 2 ^ e.toNat else x * 2 ^ (-e).toNat
  let t := fxDiv (m - fxOne) (m + fxOne)
  e * fxLn2 + 2 * oddSeries false (fxMul t t) 40 0 t

/-- The argument in [lo, hi] at which an increasing function reaches `target`, by `k` bisections. -/
def bisect (f : Int → Int) (target : Int) : Nat → Int → Int → Int
  | 0, lo, _ => lo
  | k + 1, lo, hi =>
    let mid := (lo + hi) / 2
    if f mid ≤ target then bisect f target k mid hi else bisect f target k lo mid

/-! ## Curve memory (10 Table CAL-9) -/

/-- A word held between a lower and an upper limit (10 R238: the nearer limit). -/
def held (lo hi v : Nat) : Nat := Nat.min (Nat.max v lo) hi

/-- Points of user table t, (x_k, y_k). -/
def State.tablePoints (s : State) (t : Nat) : List (Int × Int) :=
  let a := 0x400 + 0x80 * t
  (List.range ((s.curveWord (0x800 + t)).toNat % 128)).map fun k =>
    ((s.curveWord (a + 2 * k)).toInt, (s.curveWord (a + 2 * k + 1)).toInt)

/-- x strictly ascending. -/
def ascending : List (Int × Int) → Bool
  | a :: b :: l => decide (a.1 < b.1) && ascending (b :: l)
  | _ => true

/-- A table is valid with 2 to 64 points and x strictly ascending (10 R241). -/
def State.tableValid (s : State) (t : Nat) : Bool :=
  let n := (s.curveWord (0x800 + t)).toNat % 128
  decide (2 ≤ n ∧ n ≤ 64) && ascending (s.tablePoints t)

/-- On release of lock 15 every table that is not valid gets NPTS 0 (10 R241). -/
def State.validateTables (s : State) : State :=
  (List.range 8).foldl (fun s t => if s.tableValid t then s else s.setCurve (0x800 + t) 0) s

/-- On revocation or reset of lock 15 every NPTS becomes 0 (10 R241, 05 Table SEC-5). -/
def State.dropTables (s : State) : State := (List.range 8).foldl (fun s t => s.setCurve (0x800 + t) 0) s

/-- Interpolation in a table; none where u lies outside it. -/
def interpolate (u : Int) : List (Int × Int) → Option Int
  | [] => none
  | [(x, y)] => if u = x then some y else none
  | (x, y) :: (x', y') :: l =>
    if x ≤ u ∧ u < x' then some (y + roundDivInt ((u - x) * (y' - y)) (x' - x)) else interpolate u ((x', y') :: l)

/-! ## Staleness of self-calibration sets (10 R251) -/

/-- THERM_STAT.TEMP, 0.125 °C. -/
def State.temp (s : State) : Int := (BitVec.ofNat 12 (s.get F.THERM_STAT_TEMP)).toInt

/-- STALEi of the set of lane i and the gain of its descriptor as LANE_STATUS shows it. -/
def State.setStale (s : State) (i : LaneId) : Bool :=
  let a := setAddr i (s.descWords (s.get (F.LANE_STATUS_DESC i))).gain
  let age := s.get F.CAL_CTL_AGE
  let dt := s.get F.CAL_CTL_DT
  decide (age ≠ 0 ∧ age ≤ (s.curveWord (a + 3)).toNat % 256) ||
    decide (dt ≠ 0 ∧ 8 * dt < (s.temp - (s.curveWord (a + 2)).toInt).natAbs)

def State.settleCalStale (s : State) : State :=
  s.put F.CAL_STAT_STALE ((List.range 4).foldl (fun v i =>
    v + bit (s.setStale ⟨i % 4, by omega⟩) * 2 ^ i) 0)

/-! ## Curve functions -/

/-- What an evaluation gives: mantissa, SAT, and CRVX. -/
structure CurveOut where
  v : Word
  sat : Bool
  crvx : Bool
  deriving DecidableEq, Repr

/-- A value saturated to the 18-bit mantissa, with what saturated before. -/
def mantissa (y : Int) (sat : Bool) : CurveOut := let r := sat18 y; ⟨r.1, r.2 || sat, false⟩

/-- round(y × 2^−EXP) of y = n / d (10 R236). -/
def scaleByExp (n : Int) (d : Nat) (e : Int) : Int :=
  if 0 ≤ e then roundDiv n (d * 2 ^ e.toNat) else roundDiv (n * 2 ^ (-e).toNat) d

/-- x × 2^EIN in fixed point. -/
def inputX (u : Int) (ein : Int) : Int :=
  if 0 ≤ ein then u * 2 ^ ein.toNat * fxOne else (u * fxOne).fdiv (2 ^ (-ein).toNat)

/-- x held in [0, hi], with whether it was clamped. -/
def domain0 (hi x : Int) : Int × Bool := if x < 0 then (0, true) else if hi < x then (hi, true) else (x, false)

/-- Millimetres in metres, fixed point. -/
def metres (mm : Nat) : Int := (mm * fxOne).fdiv 1000

/-- Curve 14: horizontal cylinder with flat ends, litres (10 Table CAL-3). -/
def tankCylinder (r l x : Int) : Int :=
  let d := r - x
  1000 * fxMul l (fxMul (fxMul r r) (fxAcos (fxDiv d r)) - fxMul d (fxSqrt (fxMul x (2 * r - x))))

/-- Curve 15: sphere. -/
def tankSphere (r x : Int) : Int := 1000 * (fxMul fxPi (fxMul (fxMul x x) (3 * r - x)) / 3)

/-- Curve 16: vertical cylinder on a cone, apex down. -/
def tankCone (r hc x : Int) : Int :=
  let rr := fxMul fxPi (fxMul r r)
  if x ≤ hc then 1000 * (fxDiv (fxMul rr (fxMul x (fxMul x x))) (3 * fxMul hc hc))
  else 1000 * fxMul rr (hc / 3 + x - hc)

/-- R(t)/R0 of curve 9, t in 10^-6 °C, fixed point (10 Table CAL-1). -/
def platinum (t : Int) : Int :=
  let x := (t * fxOne).fdiv 1000000
  let a := fxMul x ((39083 * fxOne).fdiv 10000000)
  let b := fxMul (fxMul x x) ((-5775 * fxOne).fdiv 10000000000)
  let c := if t < 0 then (fxMul (x - 100 * fxOne) (fxMul x (fxMul x x)) * (-4183)).fdiv 1000000000000000 else 0
  fxOne + a + b + c

/-- R(t)/R0 of curve 10. -/
def nickel (t : Int) : Int :=
  let x := (t * fxOne).fdiv 1000000
  let x2 := fxMul x x
  let x4 := fxMul x2 x2
  fxOne + (x * 5485).fdiv 1000000 + (x2 * 6650).fdiv 1000000000 + (x4 * 2805).fdiv 100000000000000
    - (fxMul x4 x2 * 2000).fdiv 100000000000000000000

/-- R(t)/R0 of curve 11. -/
def copper (t : Int) : Int := fxOne + (((t * fxOne).fdiv 1000000) * 4270).fdiv 1000000

/-- Domains of curves 1 to 12 in 10^-6 °C (10 Table CAL-1). -/
def curveDomain (c : Nat) : Int × Int :=
  [(0, 0), (250, 1820), (-200, 1000), (-210, 1200), (-200, 1372), (-200, 1300), (-50, 1768), (-50, 1768), (-200, 400),
   (-200, 850), (-60, 250), (-50, 150), (-55, 150)].getD c (0, 0) |> fun p =>
    (p.1 * 1000000, p.2 * 1000000 + (if c = 6 ∨ c = 7 then 100000 else 0))

/-- Temperature of a resistance curve from R/R0: bisection over the domain, with whether R lies outside it. -/
def resistanceTemp (f : Int → Int) (dom : Int × Int) (ratio : Int) : Int × Bool :=
  if ratio < f dom.1 then (dom.1, true) else if f dom.2 < ratio then (dom.2, true)
  else (bisect f ratio 40 dom.1 dom.2, false)

/-- A temperature with the error Table CAL-4 allows, 0.02 °C for a thermocouple and 0.005 °C for a resistance, as a mantissa. -/
def tempMantissa (c : Nat) (u t : Int) (sat : Bool) (e : Int) : CurveOut :=
  let err := if sat then 0 else Config.curveError c u
  let most : Int := if c < 9 then 20000 else 5000
  let err := if err < -most then -most else if most < err then most else err
  mantissa (scaleByExp (t + err) 1000000 e) sat

/-- Curves 9 to 12 (10 R237). -/
def resistanceCurve (x : DescWords) (p : Nat → Word) (u : Int) : CurveOut :=
  let c := x.curve
  let gain : Nat := 2 ^ x.gain
  let ext := decide (x.refsel = 1)
  -- R_REF in fixed point, Ω
  let rref : Int :=
    if !ext then 1000 * fxOne
    else if c = 12 then ((p 1).toNat * fxOne) / 4
    else ((p 1).toNat * fxOne) / 2 ^ ((p 2).toNat % 32)
  let r := (u * rref).fdiv (gain * 2 ^ 17 : Nat)
  let dom := curveDomain c
  if c = 12 then
    if r ≤ 0 then tempMantissa c u dom.2 true x.exp else
    let l := fxLn r
    let inv := ((p 0).toInt * fxOne).fdiv (2 ^ 26) + (fxMul l ((p 2).toInt * fxOne)).fdiv (2 ^ 28)
      + (fxMul (fxMul l (fxMul l l)) ((p 3).toInt * fxOne)).fdiv (2 ^ 36)
    if inv ≤ 0 then tempMantissa c u dom.2 true x.exp else
    let t := (fxDiv fxOne inv * 1000000).fdiv fxOne - 273150000
    if t < dom.1 then tempMantissa c u dom.1 true x.exp
    else if dom.2 < t then tempMantissa c u dom.2 true x.exp
    else tempMantissa c u t false x.exp
  else
    let ratio := fxDiv (r * 100) ((held 100 262143 (p 0).toNat : Nat) * fxOne)
    let f := if c = 9 then platinum else if c = 10 then nickel else copper
    let y := resistanceTemp f dom ratio
    tempMantissa c u y.1 y.2 x.exp

/-- Curves 14 to 17 (10 R240); curve 17 in whole numbers, the others with 64 fraction bits. -/
def geometryCurve (x : DescWords) (p : Nat → Word) (u : Int) : CurveOut :=
  let c := x.curve
  let ein := ((p 2).extractLsb' 0 6).toInt
  let v := inputX u ein
  let r := metres (held 10 131071 (p 0).toNat)
  let out (y : Int) (sat : Bool) : CurveOut := mantissa (scaleByExp y (2 ^ 64) x.exp) sat
  if c = 14 then
    let d := domain0 (2 * r) v
    out (tankCylinder r (metres (held 10 262143 (p 1).toNat)) d.1) d.2
  else if c = 15 then
    let d := domain0 (2 * r) v
    out (tankSphere r d.1) d.2
  else if c = 16 then
    let hc := metres (held 10 262143 (p 3).toNat)
    let d := domain0 (hc + metres (p 1).toNat) v
    out (tankCone r hc d.1) d.2
  else
    let den := held 50000 200000 (p 0).toNat * held 90000 110000 (p 1).toNat
    let up := 2 ^ ein.toNat
    let down := 2 ^ (-ein).toNat
    mantissa (scaleByExp (u * up * 1000000000 + (p 3).toInt * (den * down : Nat)) (den * down * 1000) x.exp) false

/-- The die temperature in 2^-32 °C from the last sample in 0.125 °C (10 R239). -/
def State.dieTemp (s : State) : Int := s.temp * 2 ^ 29

/-- T_src in 2^-32 °C, with whether the die temperature replaces a named source (10 R239). -/
def State.coldSource (s : State) (aux : Nat) : Int × Bool :=
  if aux = 63 then (s.dieTemp, false) else
  let y := s.descWords aux
  let fresh := match storeRead (fun _ => none) s.cal.lastv aux with
    | some t => decide (ticksFrom t s.tick ≤ 65536)
    | none => false
  if decide (9 ≤ y.curve ∧ y.curve ≤ 12) && fresh then
    let m := (s.curveWord (0x100 + aux)).toInt
    (scaleByExp (m * 2 ^ 32) 1 (-y.exp), false)
  else (s.dieTemp, true)

/-- A number held in an interval. -/
def heldIn (dom : Int × Int) (t : Int) : Int := if t < dom.1 then dom.1 else if dom.2 < t then dom.2 else t

/-- E_ref of a thermocouple type at a temperature in 2^-32 °C, in 2^-32 nV. -/
def thermoEmf (c : Nat) (t : Int) : Int := Config.thermoEmf c t

/-- V = u × 2.500 V / (gain × 2^17) in 2^-32 nV, by gain code (10 R237). -/
def thermoInput (u : Int) (g : Nat) : Int := (u * 2500000000 * 2 ^ 15).fdiv (2 ^ g)

/-- Curves 1 to 8 (10 R237, R239): E = V + E_ref(T_CJ), T = E_ref⁻¹(E) by bisection over the type's domain, clamped to its ends; CJFB is told. -/
def State.thermocoupleCurve (s : State) (x : DescWords) (p : Nat → Word) (u : Int) : CurveOut × Bool :=
  let c := x.curve
  let dom := curveDomain c
  let fine : Int × Int := ((dom.1 * 2 ^ 32).fdiv 1000000, (dom.2 * 2 ^ 32).fdiv 1000000)
  let src := s.coldSource x.aux
  let cj := heldIn fine (src.1 + (p 0).toInt * 2 ^ 26)
  let e := thermoInput u x.gain + thermoEmf c cj
  let o :=
    if e < thermoEmf c fine.1 then tempMantissa c u dom.1 true x.exp
    else if thermoEmf c fine.2 < e then tempMantissa c u dom.2 true x.exp
    else tempMantissa c u ((bisect (thermoEmf c) e 44 fine.1 fine.2 * 1000000).fdiv (2 ^ 32)) false x.exp
  (o, src.2)

/-- Curve 0 (10 Table CAL-1). -/
def linearCurve (p : Nat → Word) (u : Int) : CurveOut :=
  let sh := Nat.min ((p 2).toNat % 64) 47
  mantissa (roundShift (u * (p 0).toInt) sh + (p 1).toInt) false

/-- Curve 13: round(SCALE × √(u / 2^17)), 0 below CUT, inputs below 0 clamped. -/
def sqrtCurve (p : Nat → Word) (u : Int) : CurveOut :=
  let scale := if (p 0).toNat = 0 then 131071 else (p 0).toNat
  if u < (p 1).toInt then mantissa 0 (decide (u < 0))
  else if u < 0 then mantissa 0 true
  else
    mantissa ((1 + natSqrt (4 * scale * scale * u.toNat / 2 ^ 17)) / 2 : Nat) false

/-- Curves 24 to 31: interpolation, inputs outside clamped to the table's ends (10 R241). -/
def State.userCurve (s : State) (t : Nat) (u : Int) : CurveOut :=
  let pts := s.tablePoints t
  match pts with
  | [] => ⟨0x20000, false, true⟩
  | first :: _ =>
    if u < first.1 then mantissa first.2 true
    else match interpolate u pts with
      | some y => mantissa y false
      | none => mantissa (pts.getLastD first).2 true

/-- System correction: u = sat18(round((v + SOFS) × (2^17 + SGAIN) / 2^17)) (10 R235). -/
def State.systemCorrect (s : State) (d : Nat) (v : Word) : Word × Bool :=
  let a := 0x200 + 4 * d
  sat18 (roundDiv ((v.toInt + (s.curveWord a).toInt) * (2 ^ 17 + (s.curveWord (a + 1)).toInt)) (2 ^ 17))

/-- One evaluation of descriptor d, given its words: the result and whether CJFB sets (10 R235 to R241). -/
def State.evalCurve (s : State) (d : Nat) (x : DescWords) (v : Word) : CurveOut × Bool :=
  let k := s.systemCorrect d v
  let u := k.1.toInt
  let p := fun w => s.curveWord (4 * d + w)
  let c := x.curve
  let locked := s.isSet (F.LOCK_ST_HELD 15)
  let r : CurveOut × Bool :=
    if c = 0 then (linearCurve p u, false)
    else if c ≤ 8 then s.thermocoupleCurve x p u
    else if c ≤ 12 then (resistanceCurve x p u, false)
    else if c = 13 then (sqrtCurve p u, false)
    else if c ≤ 17 then (geometryCurve x p u, false)
    else if c ≤ 23 then (⟨0x20000, false, true⟩, false)
    else if locked then (⟨0x20000, false, true⟩, false)
    else (s.userCurve (c - 24) u, false)
  ({ r.1 with sat := r.1.sat || k.2 }, r.2)

/-- The flags of an evaluation: CJFB, and CRVX of the sector it is made for. -/
def State.curveFlags (s : State) (n : Option Sector) (crvx cjfb : Bool) : State :=
  let s := if cjfb then s.setFlag F.CRV_STAT_CJFB else s
  match n with
  | some n => if crvx then (s.setFlag (F.SEQ_XST_CRVX n)).bump (F.SEQ_XST_XCNT n) else s
  | none => s

/-- The evaluation of a lane's curve stage for the sector that owns the lane, with the special results of crv (04 R105, 09 R214), and what it
leaves: LASTV(d) with its tick, CJFB, CRVX. A descriptor the sector is not granted gives 20000h and NOGR. -/
def State.runCurve (s : State) (n : Option Sector) (d : Nat) (x : DescWords) (v : Word) : CurveOut × State :=
  if n.any fun n => !s.hasDesc n d then (⟨0x20000, false, false⟩, match n with
    | some n => s.noGrant n
    | none => s)
  else
    let (o, cjfb) := s.evalCurve d x v
    (o, (s.curveFlags n o.crvx cjfb).setLastv d o.v)

/-- crv: the curve of descriptor wB[5:0] applied to wA; the result is written 48 cycles on, and LASTV with it (04 R105, 10 R235). -/
def sylCrv (n : Sector) (d a b : Fin 16) (s : State) : State :=
  let x := s.secs[n]
  let ds := (x.rdW b).toNat % 64
  if !s.hasDesc n ds then (s.noGrant n).toW n 48 d 0x20000 false else
  let (o, cjfb) := s.evalCurve ds (s.descWords ds) (x.rdW a)
  (s.curveFlags (some n) o.crvx cjfb).addFlight ⟨n, 48, .curve d o.v ds, o.sat⟩

def execCrv (d a b : Fin 16) (s : State) : Host.Outcome State Fault Refusal := .next (issueAlone (fun n => sylCrv n d a b) s)

end Sys2Proof.Machine
end

