-- ==== Sys2Proof/Machine/Filter.lean ====
section
/-! DEFINITION. The filter chain's arithmetic (09 R209 to R215): profiles, CIC, FIR, moving average, and threshold moves. -/

namespace Sys2Proof.Machine

/-! ## Profiles (09 Table LAN-10) -/

def ProfWords.crv (p : ProfWords) : Bool := p.w0.getLsbD 17
def ProfWords.sym (p : ProfWords) : Bool := p.w0.getLsbD 16
def ProfWords.block (p : ProfWords) : Bool := p.w0.getLsbD 15
/-- CIC order N. -/
def ProfWords.order (p : ProfWords) : Nat := if p.w0.getLsbD 14 then 4 else 3
/-- Dc; DCM1 below 7 acts as 7. -/
def ProfWords.dc (p : ProfWords) : Nat := Nat.max (bits p.w0 13 4) 7 + 1
/-- T as written, at most 64; 0 bypasses the FIR. -/
def ProfWords.ntaps (p : ProfWords) : Nat := Nat.min (bits p.w2 17 11) 64
/-- T as R209 counts it. -/
def ProfWords.taps (p : ProfWords) : Nat := Nat.max p.ntaps 1
/-- Df; ignored when the FIR is bypassed (09 R211). -/
def ProfWords.df (p : ProfWords) : Nat :=
  if p.ntaps = 0 then 1 else match bits p.w0 3 2 with
    | 0 => 1
    | 1 => 2
    | _ => 4
def ProfWords.s1 (p : ProfWords) : Nat := Nat.min (bits p.w1 17 12) 47
def ProfWords.s2 (p : ProfWords) : Nat := Nat.min (bits p.w1 11 6) 47
def ProfWords.s3 (p : ProfWords) : Nat := Nat.min (bits p.w1 5 0) 47
/-- L. -/
def ProfWords.len (p : ProfWords) : Nat := bits p.w3 11 0 + 1
def ProfWords.scale (p : ProfWords) : Nat := p.w4.toNat

/-- S: modulator samples of the first settled output (09 R209). -/
def ProfWords.settle (p : ProfWords) : Nat := p.dc * (p.order - 1 + p.taps + p.df * (p.len - 1))

/-- Δ: modulator samples between later outputs (09 R209). -/
def ProfWords.spacing (p : ProfWords) : Nat := p.dc * p.df * (if p.block then p.len else 1)

/-- The committed words of profile k. -/
def State.profWords (s : State) (k : Nat) : ProfWords :=
  ⟨s.word (A.PROF_W0 k), s.word (A.PROF_W1 k), s.word (A.PROF_W2 k), s.word (A.PROF_W3 k), s.word (A.PROF_W4 k)⟩

/-! ## Stages -/

/-- One modulator sample through the integrators, 48 bits wide (09 R210). -/
def integrate (order : Nat) (v : Vector Acc 4) (m : Bool) : Vector Acc 4 :=
  let a := v[0] + (if m then 1 else BitVec.allOnes 48)
  let b := v[1] + a
  let c := v[2] + b
  #v[a, b, c, if order = 4 then v[3] + c else 0]

/-- One value through the combs: what they give and what they keep. -/
def combs (order : Nat) (z : Vector Acc 4) (x : Acc) : Acc × Vector Acc 4 :=
  let a := x - z[0]
  let b := a - z[1]
  let c := b - z[2]
  if order = 4 then (c - z[3], #v[x, a, b, c]) else (c, #v[x, a, b, 0])

/-- Modulator samples up to the next CIC output: the output where there is one, the chain, and the samples left. -/
def runCic (p : ProfWords) : List Bool → Chain → Option Acc × Chain × List Bool
  | [], c => (none, c, [])
  | m :: ms, c =>
    let v := integrate p.order c.integ m
    if c.taken + 1 = p.dc then
      let r := combs p.order c.comb (if p.order = 4 then v[3] else v[2])
      (some r.1, { c with integ := v, comb := r.2, taken := 0, cics := c.cics + 1 }, ms)
    else runCic p ms { c with integ := v, taken := c.taken + 1 }

/-- Σ c[k] × u[n − k] with the newest value first, and whether any value had CLIP. -/
def firSum (coef : Nat → Int) : Nat → List (Word × Bool) → Int × Bool
  | _, [] => (0, false)
  | k, (u, b) :: l => let r := firSum coef (k + 1) l; (coef k * u.toInt + r.1, b || r.2)

/-- Sum of the values of the average, and whether any had CLIP. -/
def avgSum : List (Word × Bool) → Int × Bool
  | [] => (0, false)
  | (u, b) :: l => let r := avgSum l; (u.toInt + r.1, b || r.2)

/-- A sum shifted, rounded and saturated to a word, with CLIP. -/
def narrow (x : Int) (k : Nat) (clip : Bool) : Word × Bool := let r := sat18 (roundShift x k); (r.1, r.2 || clip)

/-- The MA output of the values of its window (09 R213). -/
def averageOut (p : ProfWords) (l : List (Word × Bool)) : Word × Bool :=
  let r := avgSum l
  narrow (if p.scale = 0 then r.1 else r.1 * p.scale) p.s3 r.2

/-! ## Thresholds (09 R229, Table LAN-11) -/

/-- The move a threshold state counts toward on value v: 1 HIGH, 2 LOW, 0 NORMAL. -/
def State.thrWant (s : State) (t : Nat) (x : ThrState) (v : Int) : Option Nat :=
  let hi := (s.word (A.THR_W0 t)).toInt
  let lo := (s.word (A.THR_W1 t)).toInt
  let hys : Int := (s.word (A.THR_W2 t)).toNat
  match x.at_ with
  | 0 => if hi < v ∧ s.isSet (F.THR_W3_HIEN t) then some 1 else if v < lo ∧ s.isSet (F.THR_W3_LOEN t) then some 2 else none
  | 1 => if v < hi - hys then some 0 else none
  | _ => if lo + hys < v then some 0 else none

/-- One output seen by a threshold state: the state after it and the move made, if any. -/
def State.thrStep (s : State) (t : Nat) (x : ThrState) (v : Int) : ThrState × Option Nat :=
  match s.thrWant t x v with
  | none => ({ x with run := 0 }, none)
  | some w =>
    let run := if x.run ≠ 0 ∧ x.toward = w then x.run + 1 else 1
    if Nat.max (s.get (F.THR_W3_PERSIST t)) 1 ≤ run then ({ x with at_ := w, run := 0, toward := 0 }, some w)
    else ({ x with run := run, toward := w }, none)

/-- Where a set taps the chain: 0 FIR, 1 MA, 2 curve; a curve tap without a curve acts as MA. -/
def State.thrTap (s : State) (t : Nat) (crv : Bool) : Nat :=
  match s.get (F.THR_W3_TAP t) with
  | 0 => 0
  | 2 => if crv then 2 else 1
  | _ => 1

end Sys2Proof.Machine
end

