-- ==== Sys2Proof/Machine/FrontEnd.lean ====
section
/-! DEFINITION. What a lane's front end presents to its modulator (08 R182 to R192): the sources of the crossbar, the reference, the
normalised input, the burn-out current, and the conditions a conversion takes note of. Levels are in 1/80 nV, so that every division of
08 Table AFE-1 is exact. R_MON, the shunts and the other resistances have their nominal values (notes/assumptions/92.md). -/

namespace Sys2Proof.Machine

/-! ## Sources (08 Table AFE-1) -/

/-- Effective resistance of a TIA, 1.6 × R_f, by FB (08 R186, Table AFE-4). -/
def tiaOhms (fb : Nat) : Nat := [100, 200, 1600, 16000].getD fb 100

/-- Output limit of a TIA, 2.60 V. -/
def tiaLimit : Int := 80 * 2600000000

/-- What TIA t would put out without its limit: I × R_f × 1.6; none where it is not connected. -/
def State.tiaDrive (s : State) (p : Pads) (t : Fin 2) : Option Int :=
  (s.tiaPin t).map fun n => 80 * (p.lp.getD n 0 * tiaOhms (s.get (F.TIA_CTL_FB t)))

/-- The differential output of TIA t as a lane sees it. -/
def State.tiaLevel (s : State) (p : Pads) (t : Fin 2) : Int :=
  match s.tiaDrive p t with
  | some v => if tiaLimit < v then tiaLimit else if v < -tiaLimit then -tiaLimit else v
  | none => 80 * p.tia.getD t 0

/-- The shunt node of a loop pin against LPCOM: 100 mV per mA while its shunt is closed (08 R185). -/
def State.loopLevel (s : State) (p : Pads) (n : Fin 4) : Int :=
  if s.afe.shunts[n] then 8000 * p.lp.getD n 0 else 80 * p.lpNode.getD n 0

/-- A single-ended source against AGND. -/
def State.sourceLevel (s : State) (p : Pads) (code : Nat) : Int :=
  if code < 24 then 80 * p.ain.getD code 0
  else if code = 29 then 80 * p.refp
  else if code = 30 then 80 * p.refn
  else if code = 31 then 10 * p.avdd
  else if code = 32 then 10 * p.vsys
  else if code = 33 then 5 * p.vfld
  else if code = 34 then 80 * (750000000 + 2000 * (p.tj - 25000))
  else if 35 ≤ code ∧ code ≤ 38 then if s.sourceOn (code - 35) then 80000 * p.exc.getD (code - 35) 0 else 0
  else if code = 39 then if s.vexcOn then 1600 * p.vexcI else 0
  else if code = 40 ∨ code = 41 then
    if s.get (F.OUT_AOCTL_RNG (code - 40)) = 2 then 8000 * p.aoI.getD (code - 40) 0 else 16 * p.aofb.getD (code - 40) 0
  else if 42 ≤ code ∧ code ≤ 45 then 320 * p.fsw.getD (code - 42) 0
  else if code = 46 then 1280 * p.isns
  else if code = 49 then 20 * p.vexp
  else if code = 50 then 20 * p.vsnp
  else if code = 51 then 20 * p.vsnn
  else if code = 52 then 20 * p.vexn
  else 0

/-- The positive and the negative converter input for codes in POS and NEG; a loop or TIA code takes both (08 Table AFE-1). -/
def State.crossbar (s : State) (p : Pads) (pos neg : Nat) : Int × Int :=
  if h : 24 ≤ pos ∧ pos ≤ 27 then (s.loopLevel p ⟨pos - 24, by omega⟩, 0)
  else if pos = 47 then (s.tiaLevel p 0, 0)
  else if pos = 48 then (s.tiaLevel p 1, 0)
  else (s.sourceLevel p pos, s.sourceLevel p neg)

/-! ## A conversion's inputs (08 R182 to R184, R199, 09 R230) -/

/-- The inputs of a conversion: the descriptor's pins, in the second phase of RTD3 AUX and POS, in the DIAG tests EXC and LEAD those of
08 Table AFE-7 and 09 Table LAN-6. -/
def State.convInputs (s : State) (c : Conv) (p : Pads) : Int × Int :=
  let x := c.desc
  match c.test with
  | some (3, n) => (s.sourceLevel p (35 + n), 0)
  | some (4, _) => if x.wire = 3 then s.crossbar p x.aux x.pos else (s.sourceLevel p 49, s.sourceLevel p 50)
  | some (5, _) => (s.sourceLevel p 51, s.sourceLevel p 52)
  | some (6, _) => (s.sourceLevel p 39, 0)
  | _ => if x.wire = 3 ∧ c.phase = 1 then s.crossbar p x.aux x.pos else s.crossbar p x.pos x.neg

/-- The gain of a conversion: 1 in the test EXC, 8 for VEXCI (08, worked case of the bridge), else the descriptor's. -/
def Conv.gain (c : Conv) : Nat :=
  match c.test with
  | some (3, _) => 1
  | some (6, _) => 8
  | _ => 2 ^ c.desc.gain

/-- The internal reference, 2.500 V. -/
def intRef : Int := 80 * 2500000000

/-- V_ref of a conversion (08 R184, Table AFE-3). -/
def State.convRef (s : State) (c : Conv) (p : Pads) : Int :=
  if !c.ratio then intRef
  else match c.desc.refsel with
    | 0 => intRef
    | 1 => 80 * (p.refp - p.refn)
    | 2 => (if s.isSet F.VEXC_CTL_LVL then 40 else 80) * (if c.desc.wire = 6 then p.vexp - p.vexn else p.vsnp - p.vsnn)
    | _ => match (List.range 4).find? fun u => c.desc.excmask / 2 ^ u % 2 == 1 with
      | some u => s.sourceLevel p (35 + u)
      | none => 0

/-- Input k of a calibration's measurements as numerator and denominator of x (10 Table CAL-5): the common-mode source, the divider at
±0.75, a source into R_MATCH, or a TIA's output at 0.75 or 0.0625 of its span of 2.40 V. -/
def calInput (r : CalReq) (p : Pads) : Option (Int × Int) :=
  let k := r.means.length
  match r.kind with
  | 0 => some (0, 1)
  | 1 => some (if k = 0 then 3 else -3, 4)
  | 2 => some (if k = 0 then 0 else if k = 1 then 3 else -3, 4)
  | 3 => some (80000 * p.exc.getD (((List.range 4).filter fun n => r.mask / 2 ^ n % 2 == 1).getD k 0) 0, intRef)
  | 4 => some (if k = 0 then 72 else 6, 100)
  | _ => none

/-- The normalised input x = V_diff × gain / V_ref that the front end presents (08 R183), as numerator and denominator. -/
def State.present (s : State) (c : Conv) (p : Pads) : Int × Int :=
  let v := s.convInputs c p
  let x := ((v.1 - v.2) * c.gain, s.convRef c p)
  if c.cal then ((s.cal.active.bind fun r => calInput r p).getD x) else x

/-- |x| exceeds 1. -/
def beyondOne (x : Int × Int) : Bool := decide (x.2.natAbs < x.1.natAbs)

/-- What a profile of unity gain delivers for a settled DC input: round(x × 2^17), saturated (08 R183). -/
def unityCode (x : Int × Int) : Word × Bool := sat18 (roundDivInt (x.1 * 2 ^ 17) x.2)

/-- An input lies in the range of linear operation of a gain (08 Table AFE-2). -/
def inRange (gain : Nat) (p : Pads) (v : Int) : Bool :=
  if gain = 1 then decide (-4000000000 ≤ v ∧ v ≤ 80 * p.avdd + 4000000000)
  else decide (8000000000 ≤ v ∧ v ≤ 80 * p.avdd - 56000000000)

/-! ## Burn-out and the common-mode window (08 R191, R192) -/

/-- Burn-out current by BO, half µA. -/
def boCurrent (bo : Nat) : Nat := [0, 1, 4, 20].getD bo 0

/-- The burn-out current of lane i, half µA, from its conversion's start to the close of its window: in every conversion with BOCONT = 1, else
in DIAG only, where OPEN and SHORT take 2 µA if BO = 0 (08 R191, Tables AFE-7, AFE-15). -/
def State.burnOut (s : State) (i : LaneId) : Nat :=
  match s.lanes[i].conv, s.lanes[i].window with
  | some c, some _ =>
    match c.test with
    | some (k, _) => if k < 2 ∧ c.desc.bo = 0 then 4 else boCurrent c.desc.bo
    | none => if c.desc.w1.getLsbD 7 then boCurrent c.desc.bo else 0
  | _, _ => 0

/-- The common mode of a conversion's inputs is outside the descriptor's window (08 R192). -/
def DescWords.cmLeft (x : DescWords) (v : Int × Int) : Bool :=
  let unit := 80 * 50000000
  decide (x.cmlo ≠ 0 ∧ v.1 + v.2 < 2 * x.cmlo * unit) || decide (x.cmhi ≠ 63 ∧ 2 * (x.cmhi : Int) * unit < v.1 + v.2) ||
    decide (x.cmhi < x.cmlo)

/-- The TIA that a conversion reads. -/
def Conv.tia? (c : Conv) : Option (Fin 2) := if c.desc.pos = 47 then some 0 else if c.desc.pos = 48 then some 1 else none

/-- The TIA that a conversion reads is at its limit (08 R186, 09 R215). -/
def State.tiaAtLimit (s : State) (c : Conv) (p : Pads) : Bool :=
  match c.tia?.bind (s.tiaDrive p) with
  | some v => decide (tiaLimit ≤ v.natAbs)
  | none => false

/-- What the front end sees over `k` modulator samples is noted in the conversion (08 R184, R192, 09 R210, R215). -/
def State.see (s : State) (c : Conv) (p : Pads) (k : Nat) : Conv :=
  let x := s.present c p
  let ref := s.convRef c p
  let beyond := if beyondOne x then c.beyond + k else 0
  { c with
    input := x
    beyond := beyond
    overload := c.overload || decide (64 ≤ beyond) || s.tiaAtLimit c p
    cm := c.cm || c.desc.cmLeft (s.convInputs c p)
    refBad := c.refBad || (c.ratio && decide (ref < 80 * 250000000 ∨ 80 * 2600000000 < ref)) }

end Sys2Proof.Machine
end

