-- ==== Sys2Proof/Machine/LaneOps.lean ====
section
/-! DEFINITION. Lanes: queues, modes, chain reset, samples and their delivery (09 R216 to R232, 10 R246, R249). -/

namespace Sys2Proof.Machine

/-! ## Small operations -/

def State.onLane (s : State) (i : LaneId) (f : LaneSt → LaneSt) : State := { s with lanes := s.lanes.set i (f s.lanes[i]) }

/-- Set an event in the sector granted the lane (03 R74). -/
def State.laneEvent (s : State) (i : LaneId) (e : Nat) : State :=
  match s.laneOwner i with
  | some n => s.raise n e
  | none => s

/-- TRIG; 11b acts as 00b. -/
def State.laneTrig (s : State) (i : LaneId) : Nat := if s.get (F.LANE_CTL_TRIG i) = 3 then 0 else s.get (F.LANE_CTL_TRIG i)

/-- What the lane does: SHADOW behaves as its base mode (09 R231). -/
def LaneSt.kind (x : LaneSt) : Nat := if x.mode = 11 then x.base else x.mode

/-- A sector's lane-time share is exhausted (05 R124): its bound is not 0 and reached. -/
def State.laneShareDone (s : State) (n : Sector) : Bool :=
  decide (s.get (F.SEC_LTQ_LTQ n) ≠ 0 ∧ 128 * s.get (F.SEC_LTQ_LTQ n) ≤ s.secs[n].laneTicks)

/-- The lane-time share of a lane's owner is exhausted. -/
def State.laneTimeOut (s : State) (i : LaneId) : Bool :=
  match s.laneOwner i with
  | some n => s.laneShareDone n
  | none => false

/-- A mode takes effect; the auto-retention count restarts, and a converting mode ends auto-retention (06 R147). -/
def State.setMode (s : State) (i : LaneId) (m : Nat) : State :=
  let s := s.onLane i fun x => { x with mode := m }
  { s with pwr := { s.pwr with
      readyTicks := s.pwr.readyTicks.set i 0
      autoRet := if 2 ≤ m then s.pwr.autoRet.set i false else s.pwr.autoRet } }

/-- A pending bank swap happens (09 R212). -/
def LaneSt.doSwap (x : LaneSt) : LaneSt := if x.swap then { x with swap := false, bankB := !x.bankB } else x

/-- The conversion ends: a lane that is not converting applies a pending swap at once (09 R212). -/
def LaneSt.stop (x : LaneSt) : LaneSt :=
  { x.doSwap with conv := none, due := false, armed := false, ran := false, atBoundary := false, ltStop := false, tests := [] }

/-- The lane is in a lead-in: its conversion gates a unit and has taken no modulator sample (08 R195, 09 R221). -/
def State.inLeadIn (s : State) (i : LaneId) : Bool :=
  match s.lanes[i].conv with
  | some c => !c.begun && decide (c.desc.lead ≠ 0) && (List.range 5).any (s.gates c.desc ·)
  | none => false

/-- The lane converts and is past any lead-in. -/
def State.isConverting (s : State) (i : LaneId) : Bool := s.lanes[i].conv.isSome && !s.inLeadIn i

/-! ## Calibration results and aborts (10 R249, R250) -/

/-- CAL_RESn written. -/
def State.calResult (s : State) (r : CalReq) (code : Nat) : State :=
  (((s.put (F.CAL_RES_KIND r.sec) r.kind).put (F.CAL_RES_CODE r.sec) code).put (F.CAL_RES_FG r.sec) (bit r.fg)).put
    (F.CAL_RES_LANE r.sec) r.lane

/-- The active calibration is over: its lane goes to READY, a TIA takes its GT again, and words held for its units are applied. -/
def State.calClose (s : State) (r : CalReq) : State :=
  let s : State := { s with cal := { s.cal with active := none } }
  let s := if r.kind = 4 then s.latchGt ⟨r.tia % 2, by omega⟩ else s
  let s := if s.lanes[r.lane].mode = 9 then (s.onLane r.lane LaneSt.stop).setMode r.lane 1 else s
  s.applyAllHeld

/-- The active calibration aborts: every trim keeps its last valid value, CDONE sets and CAL_RESn shows ABORTED. -/
def State.calAbort (s : State) : State :=
  match s.cal.active with
  | none => s
  | some r => ((s.calClose r).calResult r 1).raise r.sec 25

/-- The active calibration aborts if it runs on the lane. -/
def State.calAbortOn (s : State) (i : LaneId) : State :=
  match s.cal.active with
  | some r => if r.lane = i then s.calAbort else s
  | none => s

/-- A foreground calibration runs on the lane. -/
def State.fgCalOn (s : State) (i : LaneId) : Bool :=
  match s.cal.active with
  | some r => r.fg && decide (r.lane = i)
  | none => false

/-! ## The command queue (04 R102, 09 R220) -/

/-- What a command at the head of the queue sets off: an lmode to a converting mode is discarded while the lane-time share is exhausted
(R220), and a command that needs the modulator ends auto-retention (06 R147). -/
def laneHead (i : LaneId) : Nat → State → State
  | 0, s => s
  | k + 1, s =>
    match s.lanes[i].queue with
    | [] => s
    | c :: rest =>
      match c with
      | .mode m _ =>
        if 2 ≤ m ∧ s.laneTimeOut i then
          laneHead i k ((s.onLane i fun x => { x with queue := rest }).setFlag (F.LANE_FLAG_LTXD i))
        else if 2 ≤ m then { s with pwr := { s.pwr with autoRet := s.pwr.autoRet.set i false } } else s
      | .trig => { s with pwr := { s.pwr with autoRet := s.pwr.autoRet.set i false } }
      | _ => s

def State.laneHead (s : State) (i : LaneId) : State := Sys2Proof.Machine.laneHead i 4 s

/-- A command enters the queue; none where it is full. -/
def State.laneQueue (s : State) (i : LaneId) (c : LaneCmd) : Option State :=
  if s.lanes[i].queue.length < 4 then some ((s.onLane i fun x => { x with queue := x.queue ++ [c] }).laneHead i) else none

/-! ## Starting and ending (09 R218, R219, R222) -/

/-- A start: the chain is to be reset at the next edge. -/
def State.laneRun (s : State) (i : LaneId) : State :=
  s.onLane i fun x =>
    let n := if x.param.toNat % 4096 = 0 then 4096 else x.param.toNat % 4096
    { x with armed := false, due := true, ran := false, atBoundary := false, count := if x.kind = 6 then n else 0 }

/-- A mode ends by count or completion: DONE, LDONE where R218 lists the mode, and READY unless SINGLE or BURST stay armed. -/
def State.laneFinish (s : State) (i : LaneId) : State :=
  let x := s.lanes[i]
  let s := s.setFlag (F.LANE_STATUS_DONE i)
  let ld := decide (x.mode = 4 ∨ x.mode = 5 ∨ x.mode = 6 ∨ x.mode = 9 ∨ x.mode = 10) || (x.mode == 11 && x.base == 7)
  let s := if ld then s.laneEvent i (10 + i) else s
  let again := decide (x.mode = 5 ∨ x.mode = 6) && !x.ltStop
  let s := s.onLane i LaneSt.stop
  if again && x.queue.head? == some .trig then ((s.onLane i fun y => { y with queue := y.queue.tail }).laneRun i).laneHead i
  else if again && decide (s.laneTrig i ≠ 0) then s.onLane i fun y => { y with armed := true }
  else s.setMode i 1

/-- The tests of a DIAG mask on a descriptor, in the order of Table LAN-6: code, and for OPEN whether SHORT shares its conversion, for EXC
the source. -/
def diagTests (mask : Nat) (x : DescWords) : List (Nat × Nat) :=
  let sel (b : Nat) := mask / 2 ^ b % 2 = 1
  (if sel 0 then [(0, if sel 1 then 1 else 0)] else if sel 1 then [(1, 0)] else []) ++
  (if sel 2 then [(2, 0)] else []) ++
  (if sel 3 then ((List.range 4).filter fun n => x.excmask / 2 ^ n % 2 == 1).map fun n => (3, n) else []) ++
  (if sel 4 then (if x.wire = 3 then [(4, 0)] else if x.wire = 7 then [(4, 0), (5, 0), (6, 0)] else []) else [])

/-- lmode takes effect (09 Tables LAN-2 to LAN-4). -/
def State.takeMode (s : State) (i : LaneId) (m : Nat) (p : Word) : State :=
  let s := s.calAbortOn i
  let prev := s.lanes[i].mode
  let s := s.onLane i LaneSt.stop
  if m < 2 then s.setMode i m else
  let s := if prev < 2 then s.onLane i fun x => { x with thr := Vector.replicate 16 {} } else s
  let s := (s.put (F.LANE_SEQ_SEQ i) 0).onLane i fun x => { x with param := p, count := 0, entry := 0, spe := 0, base := 0 }
  let s := if m = 3 then s.put (F.LANE_SCAN_LEN i) (p.toNat % 16) else s
  let s := if m = 11 then
      let b := p.toNat % 16
      let ok := decide (b = 2 ∨ b = 3 ∨ b = 7 ∨ b = 8)
      let s := if ok then s else s.setFlag (F.LANE_FLAG_BADM i)
      let s := if b = 3 then s.put (F.LANE_SCAN_LEN i) (p.toNat / 16 % 16) else s
      s.onLane i fun x => { x with base := if ok then b else 2 }
    else s
  let s := s.setMode i m
  if m = 9 then
    let k := p.toNat / 64 % 4
    let n := (s.laneOwner i).getD 0
    let r : CalReq :=
      { sec := n, fg := true, kind := Nat.min k 2, lane := i, desc := p.toNat % 64, mask := 0, step := 0, tia := 0, fb := 0
        store := s.isSet F.CAL_CTL_FSTORE, means := [], measuring := true }
    { s.calAbort with cal := { s.calAbort.cal with active := some r } }.laneRun i
  else if m = 10 then
    match diagTests (p.toNat % 32) (s.descWords (s.listEntry i 0)) with
    | [] => s.laneFinish i
    | ts => (s.onLane i fun x => { x with tests := ts }).laneRun i
  else if (m = 5 ∨ m = 6 ∨ m = 11) ∧ s.laneTrig i ≠ 0 then s.onLane i fun x => { x with armed := true }
  else s.laneRun i

/-- ltrig takes effect: it starts an armed mode with TRIG = LTRIG, else TRGX. -/
def State.takeTrig (s : State) (i : LaneId) : State :=
  if s.lanes[i].armed ∧ s.laneTrig i = 1 then s.laneRun i else s.setFlag (F.LANE_FLAG_TRGX i)

/-- lchan takes effect: the entry's threshold state resets when it takes another descriptor, which an entry in conversion does at its next
chain reset (09 R221, R229). -/
def State.takeChan (s : State) (i : LaneId) (e d : Nat) : State :=
  let same := decide (s.listEntry i e = d)
  (s.put (listField i e) d).onLane i fun x =>
    match x.conv with
    | some c =>
      if c.entry = e ∧ !c.cal then { x with thr := x.thr.setIfInBounds e { x.thr[e]?.getD {} with retake := decide (c.d ≠ d) } }
      else if same then x else { x with thr := x.thr.setIfInBounds e {} }
    | none => if same then x else { x with thr := x.thr.setIfInBounds e {} }

/-- lswap takes effect: pending while the lane converts, else at once (09 R212). -/
def State.takeSwap (s : State) (i : LaneId) : State :=
  s.onLane i fun x => if x.conv.isSome then { x with swap := true } else { x with bankB := !x.bankB }

/-- A command takes effect; a calibration on the lane aborts first (10 R249). -/
def State.takeCmd (s : State) (i : LaneId) : LaneCmd → State
  | .mode m p => s.takeMode i m p
  | .trig => (s.calAbortOn i).takeTrig i
  | .chan e d => (s.calAbortOn i).takeChan i e d
  | .swap => (s.calAbortOn i).takeSwap i

/-- The point of Table LAN-3 has come for a command at the head of the queue. -/
def State.headMay (s : State) (i : LaneId) (c : LaneCmd) : Bool :=
  let x := s.lanes[i]
  let d := s.dom (.lane i)
  let on := decide (d.state = .on) && d.moving.isNone
  let power := on || (s.pwr.autoRet[i] && !c.needsModulator)
  let clock := !c.needsModulator || s.pwr.pll
  let running := x.ran && (x.conv.isSome || x.due)
  let point := match c with
    | .mode m _ =>
      if m < 2 then !s.isConverting i || x.atBoundary || decide (x.mode = 9)
      else (decide (m ≠ 9) || match s.cal.active with
          | some r => !r.fg
          | none => true) &&
        (if x.mode = 9 then !s.fgCalOn i
         else if x.mode = 5 ∨ x.mode = 6 ∨ x.mode = 10 then !running
         else !s.isConverting i || x.atBoundary)
    | .trig => !(decide (x.mode = 5 ∨ x.mode = 6) && running)
    | _ => true
  power && clock && point

/-! ## Conversions (08 R199, R201, 09 R208, R224) -/

/-- Two phases: RTD3, or RTD3D with ROT = 1 (09 R224). -/
def DescWords.twoPhase (x : DescWords) : Bool := decide (x.wire = 3) || (decide (x.wire = 4) && x.rot)

/-- This conversion has two phases: a DIAG conversion of a source or a lead has one. -/
def Conv.twoPhase (c : Conv) : Bool :=
  match c.test with
  | some (k, _) => decide (k < 3) && c.desc.twoPhase
  | none => c.desc.twoPhase

/-- The profile of a calibration of kind 3 or 4: order 3, Dc = 256, S1 = 7, which makes it unity gain, FIR bypassed, L = 1 (10 R243). -/
def calProfile : ProfWords := ⟨0xFF0, 0x7000, 0, 0, 0⟩

/-- A gating window opens: the trims of the sources that it gates come into force (10 R244). -/
def State.openWindow (s : State) (i : LaneId) (w : DescWords) : State :=
  [(0 : Fin 4), 1, 2, 3].foldl (fun s (u : Fin 4) => if s.gates w u then s.latchTrim u else s) (s.onLane i fun x => { x with window := some w })

/-- A conversion of entry e of lane i at its chain reset, in the test given: descriptor, profile and trims latched, the chain clear (09 R208,
10 R244). -/
def State.freshConv (s : State) (i : LaneId) (e : Nat) (test : Option (Nat × Nat)) : Conv :=
  let d := s.listEntry i e
  let w := s.descWords d
  let ratio := decide (s.lanes[i].kind = 7)
  let set := setAddr i w.gain
  { d := d, desc := w, prof := s.profWords w.fprof, entry := e, test := test, ratio := ratio
    bad := s.descFault w ratio true || (decide (s.lanes[i].kind = 8) && decide (w.wire ≠ 1))
    phase := 0, first := none, chain := {}, begun := false, overload := false, cm := false, refBad := false
    ofs := s.curveWord set, gcor := s.curveWord (set + 1) }

/-- A calibration's conversion at its chain reset: under the descriptor and profile named, or the engine's own (10 R243). -/
def State.freshCal (s : State) (r : CalReq) : Conv :=
  let own := decide (r.kind = 3 ∨ r.kind = 4)
  let w := if own then {} else s.descWords r.desc
  let set := setAddr r.lane w.gain
  { d := r.desc, desc := w, prof := if own then calProfile else s.profWords w.fprof, entry := 0, test := none, ratio := false, bad := false
    phase := 0, first := none, chain := {}, begun := false, overload := false, cm := false, refBad := false, cal := true
    ofs := s.curveWord set, gcor := s.curveWord (set + 1) }

/-- An entry takes the descriptor that lchan gave it during its conversion: its thresholds are NORMAL (09 R229). -/
def LaneSt.retake (x : LaneSt) (e : Nat) : LaneSt :=
  if (x.thr[e]?.getD {}).retake then { x with thr := x.thr.setIfInBounds e {} } else x

/-- Chain reset: descriptor and profile latched, the gating window open (09 R208, R234). A calibration gates only in kinds 5 and 6. -/
def State.beginConv (s : State) (i : LaneId) : State :=
  let x := s.lanes[i]
  match (if x.mode = 9 then s.cal.active else none) with
  | some r =>
    let c := s.freshCal r
    let s := s.onLane i fun x =>
      { x with conv := some c, due := false, atBoundary := false, desc := if r.kind = 3 ∨ r.kind = 4 then x.desc else r.desc }
    if 5 ≤ r.kind then s.openWindow i c.desc else s
  | none =>
    let e := if x.kind = 3 then x.entry else 0
    let c := s.freshConv i e (if x.mode = 10 then x.tests.head? else none)
    (s.onLane i fun x => { x.retake e with conv := some c, due := false, atBoundary := false, desc := c.d }).openWindow i c.desc

/-- The chain reset before a second phase: it latches what is committed, as every one does, and keeps the first phase's output and what the
sample has met so far (08 R199, 09 R208, R224). -/
def State.secondPhase (s : State) (i : LaneId) (c : Conv) (first : Word × Bool) : State :=
  let n := match (if c.cal then s.cal.active else none) with
    | some r => s.freshCal r
    | none => s.freshConv i c.entry c.test
  let n := { n with phase := 1, first := some first, begun := true, bad := c.bad || n.bad, overload := c.overload, cm := c.cm,
                    refBad := c.refBad, input := c.input, beyond := c.beyond }
  s.onLane i fun x => if c.cal then { x with conv := some n } else { x.retake c.entry with conv := some n, desc := n.d }

/-! ## Delivery (09 R225 to R228, R231) -/

/-- Bits of a header (09 Table LAN-5). -/
def header (d seq : Nat) (flt cm clip diag : Bool) (mf : Nat) : Word :=
  BitVec.ofNat 18 (d % 64 * 2048 + seq % 16 * 128 + bit flt * 64 + bit cm * 32 + bit clip * 16 + bit diag * 8 + mf % 8)

/-- A sample delivered: into the stream buffer with STR = 1, the oldest entry giving way, and into the FIFO, or dropped when it is full. -/
def State.deliver (s : State) (i : LaneId) (v : Sample) : State :=
  let s := if s.isSet (F.LANE_CTL_STR i) then
      let full := decide (64 ≤ s.lanes[i].stream.length)
      let s := s.onLane i fun x => { x with stream := (if full then x.stream.drop 1 else x.stream) ++ [v] }
      if full then s.bump (F.LANE_STRST_OVW i) else s
    else s
  if s.lanes[i].fifo.length < 16 then s.onLane i fun x => { x with fifo := x.fifo ++ [v] }
  else (s.setFlag (F.LANE_STATUS_OVF i)).laneEvent i 14

/-- A Shadow sample delivered with its mark, the comparison having failed. -/
def State.deliverMarked (s : State) (i : LaneId) (v : Sample) : State :=
  (s.deliver i { v with header := v.header ||| 4 }).laneEvent i 23

/-- The twin role is PRIMARY or STANDBY (14 Table TWN: ROLE 10b, 11b). -/
def State.twinned (s : State) : Bool := decide (2 ≤ s.get F.TW_STAT_ROLE)

def ShdRec.matches (r : ShdRec) (i : LaneId) (h : HeldSample) : Bool := decide (r.lane = i ∧ r.d = h.d ∧ r.seq = h.seq)

/-- A held sample meets its partner's record (09 R231): delivered, marked where the values differ by more than SHTOL or FLT or CLIP differ. -/
def State.compareShadow (s : State) (i : LaneId) (h : HeldSample) (r : ShdRec) : State :=
  let diff := (h.sample.value.toInt - r.value.toInt).natAbs
  let same := decide (diff ≤ s.get (F.LANE_SHTOL_SHTOL i)) && (h.sample.header.getLsbD 6 == r.flt) &&
    (h.sample.header.getLsbD 4 == r.clip)
  if same then s.deliver i h.sample
  else
    let s : State := { s with tw := { s.tw with mismatch := s.tw.mismatch.set i (Nat.min (s.tw.mismatch[i] + 1) 15) } }
    ((s.setFlag (F.LANE_FLAG_SHM i)).bump (F.LANE_SHST_MISCNT i)).deliverMarked i h.sample

/-- A produced sample: counted in LANE_SEQ, CLIP noted, and delivered; in SHADOW with a partner it is sent as a record and held until the
partner's record is there (09 R226, R231, 14 R340). -/
def State.produce (s : State) (i : LaneId) (d : Nat) (v : Sample) : State :=
  let seq := s.get (F.LANE_SEQ_SEQ i)
  let s := s.put (F.LANE_SEQ_SEQ i) (seq + 1)
  let s := if v.header.getLsbD 4 then s.setFlag (F.LANE_FLAG_CLIP i) else s
  if s.lanes[i].mode = 11 ∧ s.twinned then
    let h : HeldSample := ⟨d, seq, v⟩
    let r : ShdRec := ⟨i, d, v.header.getLsbD 6, v.header.getLsbD 4, seq, v.value⟩
    let s : State := { s with tw := { s.tw with shdOut := s.tw.shdOut ++ [r] } }
    match s.tw.shdIn.find? (fun r => r.matches i h) with
    | some r =>
      let s : State := { s with tw := { s.tw with shdIn := s.tw.shdIn.filter fun r => !r.matches i h } }
      s.compareShadow i h r
    | none => s.onLane i fun x => { x with held := x.held ++ [h] }
  else s.deliver i v

/-! ## Outputs of the chain -/

/-- A tap's output meets the entry's threshold state: TENTi on a move to HIGH or LOW, TEXTi on a move to NORMAL (09 R229). DESIGN CHOICE
(notes/assumptions/28.md): the FIR and MA taps see the outputs of a conversion at fault and of DIAG conversions too, the curve tap those that
a curve has made; a calibration's conversions are not seen. -/
def State.thrSee (s : State) (i : LaneId) (c : Conv) (tap : Nat) (v : Word) : State :=
  let t := c.desc.thrset
  if c.cal ∨ s.thrTap t c.prof.crv ≠ tap then s else
  let r := s.thrStep t (s.lanes[i].thr[c.entry]?.getD {}) v.toInt
  let s := s.onLane i fun x => { x with thr := x.thr.setIfInBounds c.entry r.1 }
  match r.2 with
  | none => s
  | some 0 => (s.laneEvent i (6 + i)).noteSource 2 0
  | some _ => (s.laneEvent i (2 + i)).noteSource 2 0

/-- The code of a loop current of `tenths` × 0.1 mA (09 R218): R_path is 100 Ω, or 1.6 × R_f through a TIA. -/
def State.loopCode (s : State) (x : DescWords) (tenths : Nat) : Int :=
  let path := if x.pos = 47 ∨ x.pos = 48 then tiaOhms (s.get (F.TIA_CTL_FB (x.pos - 47))) else 100
  roundDiv (tenths * path * 2 ^ x.gain * 2 ^ 17 : Nat) 25000

/-- The loop mark (09 R218), from the chain's output. -/
def State.loopMark (s : State) (x : DescWords) (v : Word) : Bool :=
  decide (v.toInt < s.loopCode x 36) || decide (s.loopCode x 210 < v.toInt)

/-- A DIAG test's result fails (08 Table AFE-7). Currents in half µA: burn-out at BO, or 2 µA if BO = 0. -/
def State.diagFails (s : State) (c : Conv) (k n : Nat) (v : Word) : Bool :=
  let x := v.toInt
  let bo := [4, 1, 4, 20].getD c.desc.bo 4
  let step := iexc (s.get (F.IEXC_CTL_STEP n))
  match k with
  | 0 => decide (95 * 2 ^ 17 ≤ 100 * x)
  | 1 => decide (x.natAbs * 2500000 * 2 < bo * 10 * 2 ^ c.desc.gain * 2 ^ 17)
  | 2 => c.cm
  | 3 => decide (step * 2 ^ 17 < (x * 2500 - (step * 2 ^ 17 : Nat)).natAbs * 50)
  | _ => false
where
  iexc (k : Nat) : Nat := [10, 50, 100, 250, 500, 750, 1000, 1500].getD k 0

/-- What follows a sample: the mode's counts, its end, or the next conversion (09 R217, R218, R223). -/
def State.afterSample (s : State) (i : LaneId) (c : Conv) : State :=
  let x := s.lanes[i]
  let cnt := s.get (F.LANE_CTL_CNT i)
  let again (s : State) : State := s.onLane i fun y => { y with conv := none, due := true, atBoundary := true }
  let stay (s : State) : State :=
    if c.twoPhase then again s else s.onLane i fun y => { y with atBoundary := true }
  let stop (s : State) : State := (s.onLane i LaneSt.stop).setMode i 1
  let counted (s : State) (next : State → State) : State :=
    let s := s.onLane i fun y => { y with count := y.count + 1 }
    if cnt ≠ 0 ∧ cnt ≤ s.lanes[i].count then s.laneFinish i else if x.ltStop then stop s else next s
  match x.kind with
  | 2 => counted s stay
  | 8 => counted s stay
  | 4 => counted s again
  | 7 => counted s again
  | 3 =>
    let spe := Nat.max (s.get (F.LANE_SCAN_SPE i)) 1
    if x.spe + 1 < spe then
      let s := s.onLane i fun y => { y with spe := y.spe + 1 }
      if x.ltStop then stop s else stay s
    else if x.entry < s.get (F.LANE_SCAN_LEN i) then
      let s := s.onLane i fun y => { y with spe := 0, entry := y.entry + 1 }
      if x.ltStop then stop s else again s
    else counted (s.onLane i fun y => { y with spe := 0, entry := 0 }) again
  | 5 => s.laneFinish i
  | 6 =>
    if x.count ≤ 1 then s.laneFinish i
    else
      let s := s.onLane i fun y => { y with count := y.count - 1 }
      if x.ltStop then stop s else stay s
  | 10 =>
    let s := s.onLane i fun y => { y with tests := y.tests.tail }
    if x.tests.length ≤ 1 then s.laneFinish i else if x.ltStop then stop s else again s
  | _ => s

/-- The curve stage: the output passed through the descriptor's curve where the profile has CRV = 1 (09 R214), then the curve tap. -/
def State.curveStage (s : State) (i : LaneId) (c : Conv) (v : Word) : CurveOut × State :=
  if c.prof.crv then
    let (o, s) := s.runCurve (s.laneOwner i) c.d c.desc v
    (o, s.thrSee i c 2 o.v)
  else (⟨v, false, false⟩, s)

/-- A settled output of the last phase becomes a sample (09 R209, R214, R225, R230). `clip` is what the stages and phases gave. A conversion at
fault has no curve made, and the tests EXC and LEAD deliver codes; OPEN, SHORT and CMW are judged before the curve
(notes/assumptions/28.md). -/
def State.sampleOut (s : State) (i : LaneId) (c : Conv) (v : Word) (clip : Bool) : State :=
  let clip := clip || c.overload
  let flt := c.bad || c.refBad
  let cm := c.cm && !isLoopCode c.desc.pos && !isTiaCode c.desc.pos
  let s := s.thrSee i c 1 v
  let curved := !flt && c.test.all fun k => decide (k.1 < 3)
  let (o, s) := if curved then s.curveStage i c v else ((⟨if flt then 0x20000 else v, false, false⟩ : CurveOut), s)
  let clip := clip || o.sat
  match c.test with
  | some (k, n) =>
    let out (s : State) (k : Nat) : State :=
      let fails := flt || s.diagFails { c with cm := cm } k n v
      s.produce i c.d ⟨o.v, header c.d (s.get (F.LANE_SEQ_SEQ i)) fails cm clip true k⟩
    let s := out s k
    let s := if k = 0 ∧ n = 1 then out s 1 else s
    s.afterSample i c
  | none =>
    let mark := decide (s.lanes[i].kind = 8) && !flt && s.loopMark c.desc v
    let t := (s.lanes[i].thr[c.entry]?.getD {}).at_
    let mf := bit mark * 4 + (if t = 1 then 2 else if t = 2 then 1 else 0)
    (s.produce i c.d ⟨o.v, header c.d (s.get (F.LANE_SEQ_SEQ i)) flt cm clip false mf⟩).afterSample i c

/-- Conversions of one measurement (10 Table CAL-5). -/
def CalReq.conversions (r : CalReq) : Nat := if r.kind < 5 then 4 else 16

/-- A settled output of a calibration's conversion: the next follows, up to the measurement's number (10 R243, R255). -/
def State.calOut (s : State) (i : LaneId) (c : Conv) (v : Word) : State :=
  match s.cal.active with
  | none => s
  | some r =>
    let r := { r with outs := r.outs ++ [v], prof := some c.prof }
    let s : State := { s with cal := { s.cal with active := some r } }
    s.onLane i fun x => { x with conv := none, due := decide (r.outs.length < r.conversions) }

/-- The value of a two-phase sample (08 R197, Table AFE-6). -/
def phasePair (wire : Nat) (a b : Word) : Word × Bool :=
  if wire = 4 then (BitVec.ofInt 18 ((a.toInt + b.toInt + 1).fdiv 2), false) else sat18 (a.toInt - b.toInt)

/-- A settled MA output: the first phase's is kept and the chain reset for the second; the last phase's makes the sample. -/
def State.avgOut (s : State) (i : LaneId) (c : Conv) (v : Word) (clip : Bool) : State :=
  let give (s : State) (v : Word) (clip : Bool) : State := if c.cal then s.calOut i c v else s.sampleOut i c v clip
  if c.twoPhase then
    match c.first with
    | none => s.secondPhase i c (v, clip)
    | some f =>
      let r := phasePair c.desc.wire f.1 v
      give (s.thrSee i c 0 r.1) r.1 (f.2 || clip || r.2)
  else give s v clip

/-- A settled FIR output goes through the moving average (09 R213); a two-phase conversion shows its thresholds only the pair. -/
def State.firOut (s : State) (i : LaneId) (c : Conv) (y : Word × Bool) : State :=
  let s := if c.twoPhase then s else s.thrSee i c 0 y.1
  let p := c.prof
  let avg := (y :: c.chain.avg).take p.len
  let full := decide (avg.length = p.len)
  let c := { c with chain := { c.chain with firs := c.chain.firs + 1, avg := if full && p.block then [] else avg } }
  let s := s.onLane i fun x => { x with conv := some c }
  if full then let r := averageOut p avg; s.avgOut i c r.1 r.2 else s

/-- Coefficient c[k] of the lane's active bank (09 R211). -/
def State.firCoef (s : State) (i : LaneId) (p : ProfWords) (k : Nat) : Int :=
  let j := if p.sym && decide ((p.ntaps + 1) / 2 ≤ k) then p.ntaps - 1 - k else k
  (s.word (F.FIR_C i (bit s.lanes[i].bankB) j).addr).toInt

/-- A CIC output: shifted and, once settled, taken by the FIR, which swaps its bank between two outputs (09 R210 to R212). -/
def State.cicOut (s : State) (i : LaneId) (c : Conv) (v : Acc) : State :=
  let p := c.prof
  if c.chain.cics < p.order then s.onLane i fun x => { x with conv := some c } else
  let taps := (narrow v.toInt p.s1 false :: c.chain.taps).take p.taps
  let c := { c with chain := { c.chain with taps := taps } }
  let due := decide (taps.length = p.taps) && decide ((c.chain.cics + 1 - p.order - p.taps) % p.df = 0)
  if !due then s.onLane i fun x => { x with conv := some c } else
  let s := s.onLane i fun x => { x.doSwap with conv := some c }
  if p.ntaps = 0 then s.firOut i c (taps.headD (0, false))
  else
    let r := firSum (s.firCoef i p) 0 taps
    s.firOut i c (narrow r.1 p.s2 r.2)

/-- Modulator samples through the lane's chain, as long as its conversion lasts. -/
def feedLane (i : LaneId) : Nat → List Bool → State → State
  | 0, _, s => s
  | k + 1, ms, s =>
    match s.lanes[i].conv with
    | none => s
    | some c =>
      match ms with
      | [] => s
      | _ =>
        let r := runCic c.prof ms c.chain
        let c := { c with chain := r.2.1 }
        match r.1 with
        | none => s.onLane i fun x => { x with conv := some c }
        | some v => feedLane i k r.2.2 (s.cicOut i c v)

end Sys2Proof.Machine
end

