-- ==== Sys2Proof/Machine/Lanes.lean ====
section
/-! DEFINITION. Lane commands: the lane syllables of slot X (04 R101 to R103), and what happens in a lane (09). -/

namespace Sys2Proof.Machine

/-! ## Lane syllables (04 Table INS-6) -/

/-- A syllable not permitted or undefined: NOP with SLOTX (03 R56). -/
def sylSlotx (n : Sector) (s : State) : State := s.setFlag (F.SEQ_FLAG_SLOTX n)

/-- A command from sector n's program for a lane: suppressed with NOGR without the grant (04 R90), else queued at the end of the cycle, or
discarded with the breach LANEQ when the queue is full (R102). -/
def State.laneCommand (s : State) (n : Sector) (i : LaneId) (c : LaneCmd) : State :=
  if !s.hasLane n i then s.noGrant n else
  let s := if n = 0 ∧ s.lanes[i].hcmd.isSome then s.onLane i fun x => { x with hcmdAfter := true } else s
  match s.laneQueue i c with
  | some s => s
  | none => s.breachHere 5 i

/-- lmode: CAL names a descriptor, which must be granted, and needs lock 7 (09 R219). -/
def sylLmode (n : Sector) (d a b : Fin 16) (s : State) : State :=
  let p := s.secs[n].rdW a
  let i := laneIx d
  if b = 9 ∧ s.hasLane n i ∧ !s.hasDesc n (p.toNat % 64) then s.noGrant n
  else if b = 9 ∧ s.hasLane n i ∧ !s.holds n 7 then s.noLock n
  else s.laneCommand n i (.mode b p)

/-- lchan: scan entry wA[9:6] takes descriptor wA[5:0]. -/
def sylLchan (n : Sector) (d a : Fin 16) (s : State) : State :=
  let p := (s.secs[n].rdW a).toNat
  let i := laneIx d
  if s.hasLane n i ∧ !s.hasDesc n (p % 64) then s.noGrant n else s.laneCommand n i (.chan (p / 64 % 16) (p % 64))

def sylLtrig (n : Sector) (d : Fin 16) (s : State) : State := s.laneCommand n (laneIx d) .trig

def sylLswap (n : Sector) (d : Fin 16) (s : State) : State := s.laneCommand n (laneIx d) .swap

/-- Opcode 34h by its b field. -/
def sylLaneOp (n : Sector) (d a b : Fin 16) (s : State) : State :=
  if b.val < 12 then sylLmode n d a b s
  else if b = 12 then sylLchan n d a s
  else if b = 13 then sylLtrig n d s
  else if b = 14 then sylLswap n d s
  else sylSlotx n s

def State.setLastPop (s : State) (n : Sector) (i : LaneId) (h : Option Word) : State :=
  s.onSec n fun x => { x with lastPop := x.lastPop.set i h }

/-- pop: the FIFO's head, or 20000h with the breach EMPTYPOP, or 20000h without a breach where the lane is not granted (04 R103). -/
def sylPop (n : Sector) (d b : Fin 16) (s : State) : State :=
  let i := laneIx b
  if !s.hasLane n i then ((s.noGrant n).setLastPop n i none).toW n 2 d 0x20000 false else
  match s.lanes[i].fifo with
  | [] => ((s.breachHere 4 i).setLastPop n i none).toW n 2 d 0x20000 false
  | v :: rest => ((s.onLane i fun x => { x with fifo := rest }).setLastPop n i (some v.header)).toW n 2 d v.value false

/-- phdr: the header of the sample last popped, or 3FFFFh (04 R103). -/
def sylPhdr (n : Sector) (d b : Fin 16) (s : State) : State :=
  let i := laneIx b
  if !s.hasLane n i then (s.noGrant n).toW n 2 d 0x3FFFF false
  else s.toW n 2 d (s.secs[n].lastPop[i].getD 0x3FFFF) false

def execLmode (d a b : Fin 16) (s : State) : Host.Outcome State Fault Refusal := .next (issueAlone (fun n => sylLaneOp n d a b) s)

def execLchan (d a : Fin 16) (s : State) : Host.Outcome State Fault Refusal := .next (issueAlone (fun n => sylLchan n d a) s)

def execLtrig (d _a : Fin 16) (s : State) : Host.Outcome State Fault Refusal := .next (issueAlone (fun n => sylLtrig n d) s)

def execLswap (d _a : Fin 16) (s : State) : Host.Outcome State Fault Refusal := .next (issueAlone (fun n => sylLswap n d) s)

def execPop (d _a b : Fin 16) (s : State) : Host.Outcome State Fault Refusal := .next (issueAlone (fun n => sylPop n d b) s)

def execPhdr (d _a b : Fin 16) (s : State) : Host.Outcome State Fault Refusal := .next (issueAlone (fun n => sylPhdr n d b) s)

/-! ## Events in a lane -/

/-- The command at the head of the queue takes effect, if its point has come (09 R220, R221); an lmode to a converting mode is discarded
while the lane-time share is exhausted. -/
def State.laneEffect (s : State) (i : LaneId) : State :=
  match s.lanes[i].queue with
  | [] => s
  | c :: rest =>
    let pop (s : State) : State := s.onLane i fun x => { x with queue := rest }
    let discard := match c with
      | .mode m _ => decide (2 ≤ m) && s.laneTimeOut i
      | _ => false
    if discard then ((pop s).setFlag (F.LANE_FLAG_LTXD i)).laneHead i
    else if s.headMay i c then ((pop s).takeCmd i c).laneHead i
    else s

def execLaneCommandEffect (i : LaneId) (s : State) : Host.Outcome State Fault Refusal := .next (s.laneEffect i)

/-- A frame start starts an armed lane with TRIG = FRAME (09 R219). -/
def execLaneFrameTrigger (i : LaneId) (s : State) : Host.Outcome State Fault Refusal :=
  .next (if s.lanes[i].armed ∧ s.laneTrig i = 2 then s.laneRun i else s)

/-- The lane's MCLK runs: its domain is ON and the PLL runs (06 R134, R148). -/
def State.laneClocked (s : State) (i : LaneId) : Bool :=
  s.isOn (.lane i) && (s.dom (.lane i)).moving.isNone && s.pwr.pll

/-- A conversion starts (09 R208, R234), where one is due and the lane has its clock. -/
def execChainReset (i : LaneId) (s : State) : Host.Outcome State Fault Refusal :=
  .next (if s.lanes[i].due ∧ s.laneClocked i then s.beginConv i else s)

/-- A TIA that a conversion reads, and that is at its limit, sets TIASATn (08 R186). -/
def State.seeTia (s : State) (c : Conv) (p : Pads) : State :=
  match c.tia? with
  | some t => if s.tiaAtLimit c p then s.tiaSat t else s
  | none => s

/-- Modulator samples since the chain reset or the last boundary, the analog quantities that stood over them presented to the modulator (08
R182 to R184): the chain takes them, and each settled output becomes a sample (09 R209 to R215, R225 to R231). A lane without its clock is
frozen (R222). The samples themselves are what the modulator makes of its input (notes/assumptions/92.md). -/
def execSampleBoundary (i : LaneId) (mods : List Bool) (pads : Pads) (s : State) : Host.Outcome State Fault Refusal :=
  match s.lanes[i].conv with
  | none => .next s
  | some c =>
    if !s.laneClocked i then .next s else
    let c := { s.see c pads mods.length with begun := c.begun || !mods.isEmpty }
    let s := (s.seeTia c pads).onLane i fun x =>
      { x with conv := some c, ran := x.ran || !mods.isEmpty, atBoundary := x.atBoundary && mods.isEmpty }
    .next (feedLane i mods.length mods s)

/-- The lane's gating window closes: the gated units and the burn-out go off, and held control words apply (08 R195, R196, Table AFE-15). -/
def execGatingWindowClose (i : LaneId) (s : State) : Host.Outcome State Fault Refusal :=
  .next (s.onLane i fun x => { x with window := none }).applyAllHeld

/-- The oldest held Shadow sample has waited SHWAIT × 64 mck: delivered marked as timed out (09 R231). -/
def execShadowTimeout (i : LaneId) (s : State) : Host.Outcome State Fault Refusal :=
  match s.lanes[i].held with
  | [] => .next s
  | h :: rest =>
    let s := s.onLane i fun x => { x with held := rest }
    .next (((s.setFlag (F.LANE_FLAG_SHTO i)).bump (F.LANE_SHST_TMOCNT i)).deliverMarked i h.sample)

/-! ## The host's view (09 R232) -/

/-- A host write of LANE_HCMD: OWNED when a guest has the lane, which LANE_DISAGREE counts, else held for the next prologue in place of one
held before. -/
def State.hostLaneCommand (s : State) (i : LaneId) (v : Word) : State × Bool :=
  match s.laneOwner i with
  | some n =>
    if n = 0 then (s.onLane i fun x => { x with hcmd := some v, hcmdAfter := false }, false)
    else (s.bump (F.LANE_DISAGREE_COUNT i), true)
  | none => (s.onLane i fun x => { x with hcmd := some v, hcmdAfter := false }, false)

/-- The write reaches the register while CORE is ON (06 R142). -/
def execLaneHcmd (i : LaneId) (v : Word) (s : State) : Host.Outcome State Fault Refusal :=
  .next (if s.isOn .core then (s.hostLaneCommand i v).1 else s)

/-- A held host command enters the queue at the prologue, or is discarded when sector 0 commanded the lane after it. Mode codes 12 to 15
give no mode command; a command that finds the queue full is discarded. DESIGN CHOICE (notes/assumptions/93.md): a mode command CAL of the
host's needs no lock 7 and no grant of its descriptor, and runs as the request of the lane's owner, or of sector 0. -/
def State.applyHcmd (s : State) (i : LaneId) : State :=
  match s.lanes[i].hcmd with
  | none => s
  | some w =>
    let after := s.lanes[i].hcmdAfter
    let s := s.onLane i fun x => { x with hcmd := none, hcmdAfter := false }
    if after then s.bump (F.LANE_DISAGREE_COUNT i) else
    let m := w.toNat % 16
    let s := if m < 12 then (s.laneQueue i (.mode m (BitVec.ofNat 18 (w.toNat / 64)))).getD s else s
    if w.getLsbD 4 then (s.laneQueue i .trig).getD s else s

/-- LANE_STATUS takes the lane as it stands at the prologue. -/
def State.snapLane (s : State) (i : LaneId) : State :=
  let x := s.lanes[i]
  (((s.put (F.LANE_STATUS_MODE i) x.mode).put (F.LANE_STATUS_FCNT i) x.fifo.length).put (F.LANE_STATUS_BANK i) (bit x.bankB)).put
    (F.LANE_STATUS_DESC i) x.desc

/-! ## Lane reset and forced ends -/

/-- The lane enters READY with queue and FIFO flushed (05 R116, R118 step 3). A lane in OFF stays OFF. -/
def State.flushLane (s : State) (i : LaneId) : State :=
  let s := s.calAbortOn i
  let s := s.onLane i fun x => { x.stop with queue := [], fifo := [], held := [], hcmd := none, hcmdAfter := false }
  if s.lanes[i].mode = 0 then s else s.setMode i 1

/-- SYS_RST.LRSTi (16 R377): READY, but OFF where the domain is (06 Table PWR-2). -/
def State.resetLane (s : State) (i : LaneId) : State :=
  let s := s.calAbortOn i
  let s := s.onLane i fun x =>
    { ({ x with swap := false }.stop) with queue := [], fifo := [], stream := [], held := [], thr := Vector.replicate 16 {} }
  let s := s.put (F.LANE_SEQ_SEQ i) 0
  if (s.dom (.lane i)).state = .off then s.setMode i 0 else s.setMode i 1

/-- The lane goes to READY at its next sample boundary, at once when it is only armed (05 R124). -/
def State.laneTimeStop (s : State) (i : LaneId) : State :=
  if s.lanes[i].mode < 2 then s
  else if s.lanes[i].mode ≠ 9 ∧ (s.lanes[i].conv.isSome || s.lanes[i].due) then s.onLane i fun x => { x with ltStop := true }
  else (s.calAbortOn i).onLane i LaneSt.stop |>.setMode i 1

/-- A sector's lane-time count reaches its share: LTX, and its converting lanes stop (05 R124). -/
def execLaneTimeShareExhausted (n : Sector) (s : State) : Host.Outcome State Fault Refusal :=
  .next (
    if s.laneShareDone n then
      [(0 : LaneId), 1, 2, 3].foldl (fun s i => if s.hasLane n i then s.laneTimeStop i else s) (s.setFlag (F.SEC_STAT_LTX n))
    else s)

/-! ## Staged blocks (09 R216, R229) -/

/-- Word 4 of a filter profile written: all five words commit. -/
def State.commitProf (s : State) (p : Nat) (v : Word) : State :=
  (commitStaged (A.PROF_W0 p) 4 s).setWord (A.PROF_W4 p) v

/-- The threshold set of a list entry: that of the descriptor latched for its conversion, else of the one committed. -/
def State.entrySet (s : State) (i : LaneId) (e : Nat) : Nat :=
  match s.lanes[i].conv.filter fun c => !c.cal && decide (c.entry = e) with
  | some c => c.desc.thrset
  | none => (s.descWords (s.listEntry i e)).thrset

/-- Word 3 of a threshold set written: it commits, and the entries that name it return to NORMAL. -/
def State.commitThr (s : State) (t : Nat) (v : Word) : State :=
  let s := (commitStaged (A.THR_W0 t) 3 s).setWord (A.THR_W3 t) (writableBits (A.THR_W3 t) v)
  [(0 : LaneId), 1, 2, 3].foldl (fun s i =>
    (List.range 16).foldl (fun s e =>
      if s.entrySet i e = t then s.onLane i fun x => { x with thr := x.thr.setIfInBounds e { retake := (x.thr[e]?.getD {}).retake } } else s) s) s

end Sys2Proof.Machine
end

