-- ==== Sys2Proof/Machine/Calib.lean ====
section
/-! DEFINITION. The calibration engine (10 R243 to R255) and access to the curve memory (R238, R254). Means are in 2^-16 LSB. -/

namespace Sys2Proof.Machine

/-! ## Requests (10 R245) -/

/-- A request word taken apart (10 Table CAL-6). -/
def calRequest (n : Sector) (v : Word) : CalReq :=
  let k := bits v 17 15
  { sec := n, fg := false, kind := k, lane := ⟨bits v 14 13 % 4, by omega⟩
    desc := if k = 3 ∨ k = 4 then 0 else bits v 12 7
    mask := if k = 3 then bits v 12 9 else 0
    step := if k = 3 then bits v 6 4 else 0
    tia := if k = 4 then bits v 12 12 else 0
    fb := if k = 4 then bits v 11 10 else 0
    store := v.getLsbD 0, means := [], measuring := false }

/-- Sources of a mask, ascending. -/
def maskSources (m : Nat) : List Nat := (List.range 4).filter fun n => m / 2 ^ n % 2 == 1

/-- Measurements of a request (10 Table CAL-5). -/
def CalReq.measurements (r : CalReq) : Nat :=
  match r.kind with
  | 0 => 1
  | 1 => 2
  | 2 => 3
  | 3 => (maskSources r.mask).length
  | 4 => 2
  | _ => 1

/-- The units a request names: sources of kind 3, the TIA of kind 4, by lock. -/
def CalReq.locks (r : CalReq) : List Nat :=
  if r.kind = 3 then maskSources r.mask else if r.kind = 4 then [5 + r.tia] else []

/-- A background calibration of kind 3 or 4 whose requester no longer holds the lock of every unit aborts (10 R249). -/
def State.calUnlocked (s : State) : State :=
  match s.cal.active with
  | some r => if !r.fg && r.locks.any (fun k => !s.holds r.sec k) then s.calAbort else s
  | none => s

/-- Why the engine refuses a request, as the code of Table CAL-7. DESIGN CHOICE (notes/assumptions/89.md): the bound of three queued
(02 Table CON-11, CAL_STAT.QCNT) holds with none active too. -/
def State.calRefusal (s : State) (r : CalReq) : Option Nat :=
  if 3 ≤ s.cal.queue.length then some 3
  else if r.kind = 7 then some 5
  else if r.kind = 3 ∧ (maskSources r.mask).length < 2 then some 5
  else if r.locks.any fun k => !s.holds r.sec k then some 4
  else none

/-- calq: pD tells acceptance; suppressed without the grants or lock 7 (04 R90, 01 R22), a refusal writes its code to CAL_RESn. -/
def sylCalq (n : Sector) (d a : Fin 16) (s : State) : State :=
  let v := s.secs[n].rdW a
  let r := calRequest n v
  let named := s.hasLane n r.lane && (decide (r.kind = 3 ∨ r.kind = 4 ∨ r.kind = 7) || s.hasDesc n r.desc)
  if !s.hasUnit n 7 || !named then (s.noGrant n).toP n 2 d false
  else if !s.holds n 7 then (s.noLock n).toP n 2 d false
  else match s.calRefusal r with
    | some k => (s.calResult r k).toP n 2 d false
    | none => ({ s with cal := { s.cal with queue := s.cal.queue ++ [r] } }).toP n 2 d true

def execCalq (d a _b : Fin 16) (s : State) : Host.Outcome State Fault Refusal := .next (issueAlone (fun n => sylCalq n d a) s)

/-! ## Results (10 Table CAL-5, R250) -/

def meanScale : Int := 2 ^ 16

/-- n / d rounded half away from zero; none where d is 0. -/
def quotient (n d : Int) : Option Int := if d = 0 then none else some (roundDivInt n d)

def within (m x : Int) : Bool := decide (-m ≤ x ∧ x ≤ m)

/-- A coefficient as its word, where it keeps its limit. -/
def limited (m : Int) (x : Option Int) : Option Word :=
  match x with
  | some x => if within m x then some (BitVec.ofInt 18 x) else none
  | none => none

def ofsResult (m : Int) : Option Word := limited 4096 (quotient m meanScale)

/-- GCOR from the two means at +0.75 and −0.75. -/
def gcorResult (hi lo : Int) : Option Word :=
  limited 8192 ((quotient (3 * 2 ^ 33 * meanScale) (hi - lo)).map (· - 2 ^ 17))

/-- GT from the means at 0.75 and 0.0625 of the span. -/
def gtResult (hi lo : Int) : Option Word :=
  limited 8192 ((quotient (66 * 2 ^ 34 * meanScale) (100 * (hi - lo))).map (· - 2 ^ 17))

/-- TRIM of one source: what was, plus round((M / m − 1) × 10^4), in [7:0]. -/
def trimResult (old : Word) (sum : Int) (k : Nat) (m : Int) : Option Word :=
  match quotient ((sum - k * m) * 10000) (k * m) with
  | some x =>
    let t := (old.setWidth 8).toInt + x
    if within 127 t then some ((BitVec.ofInt 8 t).setWidth 18) else none
  | none => none

/-- SOFS = round(SREF × 2^17 / (2^17 + SGAIN)) − mean; a result outside the word is a free value. -/
def sofsResult (sref sgain mean : Int) : Option Word :=
  (quotient (sref * 2 ^ 17) (2 ^ 17 + sgain)).map fun x =>
    let y := x - roundDiv mean 65536
    if clampTo 18 y = y then BitVec.ofInt 18 y else Config.sofsOutside y

def sgainResult (sref sofs mean : Int) : Option Word :=
  limited 65536 ((quotient (2 ^ 17 * sref * meanScale) (mean + sofs * meanScale)).map (· - 2 ^ 17))

/-- All of a list of optional writes, or none. -/
def allWrites : List (Nat × Option Word) → Option (List (Nat × Word))
  | [] => some []
  | (a, some v) :: l => (allWrites l).map ((a, v) :: ·)
  | (_, none) :: _ => none

/-- The coefficient writes of a completed request; none where a limit of R250 is broken. -/
def State.calWrites (s : State) (r : CalReq) : Option (List (Nat × Word)) :=
  let m (k : Nat) : Int := r.means.getD k 0
  let set := setAddr r.lane (s.descWords r.desc).gain
  let sys := 0x200 + 4 * r.desc
  match r.kind with
  | 0 => allWrites [(set, ofsResult (m 0))]
  | 1 => allWrites [(set + 1, gcorResult (m 0) (m 1))]
  | 2 => allWrites [(set, ofsResult (m 0)), (set + 1, gcorResult (m 1) (m 2))]
  | 3 =>
    let ns := maskSources r.mask
    allWrites ((ns.zip r.means).map fun x =>
      (trimAddr x.1 r.step, trimResult (s.curveWord (trimAddr x.1 r.step)) r.means.sum ns.length x.2))
  | 4 => allWrites [(gtAddr r.tia r.fb, gtResult (m 0) (m 1))]
  | 5 => allWrites [(sys, sofsResult (s.curveWord (sys + 2)).toInt (s.curveWord (sys + 1)).toInt (m 0))]
  | _ => allWrites [(sys + 1, sgainResult (s.curveWord (sys + 2)).toInt (s.curveWord sys).toInt (m 0))]

/-- Byte 3 of a record (10 Table CAL-8). -/
def CalReq.recordUnit (r : CalReq) (gain : Nat) : Nat :=
  if r.kind < 3 then r.lane.val * 64 + gain * 8
  else if r.kind = 3 then r.mask * 16 + r.step
  else if r.kind = 4 then r.tia * 128 + r.fb * 32
  else r.desc

/-- The record of a completed request without SEQ and CRC (10 Table CAL-8). -/
def State.calRecord (s : State) (r : CalReq) : List Byte :=
  let gain := (s.descWords r.desc).gain
  let w (a : Nat) := s.curveWord a
  let set := setAddr r.lane gain
  let sys := 0x200 + 4 * r.desc
  let words : List Word := match r.kind with
    | 0 => [w set, 0, 0, 0]
    | 1 => [0, w (set + 1), 0, 0]
    | 2 => [w set, w (set + 1), 0, 0]
    | 3 => (List.range 4).map fun n => if r.mask / 2 ^ n % 2 = 1 then w (trimAddr n r.step) else 0
    | 4 => [w (gtAddr r.tia r.fb), 0, 0, 0]
    | _ => [w sys, w (sys + 1), w (sys + 2), 0]
  [0x43, 0x52, BitVec.ofNat 8 r.kind, BitVec.ofNat 8 (r.recordUnit gain)] ++ beBytes 5 s.tick ++ [0] ++
    beBytes 2 (BitVec.ofInt 16 s.temp).toNat ++ (words.map wordBytes).flatten

/-- A record queued for the flash, or pending while the queue is full; a second pending record replaces the first (10 R252). -/
def State.queueRecord (s : State) (b : List Byte) : State :=
  if s.flashFull then
    let s := if s.cal.pstore.isSome then s.bump F.CAL_STAT_PREPL else s
    { s with cal := { s.cal with pstore := some b } }
  else s.enqueueFlash (flashOp 6 0 0 0 0 b)

/-- Completion (10 R250): coefficients written, or RANGE; TCAL and AGEC of a self-calibration set; CDONE, READY, the record. A mode that
ends by completion sets DONE (09 R218), a foreground one LDONE. -/
def State.calComplete (s : State) (r : CalReq) : State :=
  let finish (s : State) (code : Nat) : State :=
    let s := (((s.calClose r).calResult r code).raise r.sec 25).setFlag (F.LANE_STATUS_DONE r.lane)
    if r.fg then s.laneEvent r.lane (10 + r.lane) else s
  match s.calWrites r with
  | none => finish s 2
  | some ws =>
    let s := ws.foldl (fun s w => s.setCurve w.1 w.2) s
    let set := setAddr r.lane (s.descWords r.desc).gain
    let s := if r.kind < 3 then (s.setCurve (set + 2) (BitVec.ofInt 18 s.temp)).setCurve (set + 3) 0 else s
    let s := if r.store then s.queueRecord (s.calRecord r) else s
    finish s 0

/-! ## Bookings and measurements (10 R247) -/

/-- A queued request is eligible: its lane is READY and its domain ON or in auto-retention. -/
def State.calEligible (s : State) (r : CalReq) : Bool :=
  decide (s.lanes[r.lane].mode = 1) && (s.isOn (.lane r.lane) || s.pwr.autoRet[r.lane])

/-- The sector for which a CAL booking is pending: the active background request's when its measurement has ended, else one with an
eligible request. -/
def State.calPending (s : State) : Option Sector :=
  match s.cal.active with
  | some r => if r.fg || r.measuring then none else some r.sec
  | none => s.pickSector fun n => s.cal.queue.any fun r => decide (r.sec = n) && s.calEligible r

/-- The first element that satisfies `p`, and the list without it. -/
def takeFirst {α : Type} (p : α → Bool) : List α → Option (α × List α)
  | [] => none
  | x :: l => if p x then some (x, l) else (takeFirst p l).map fun r => (r.1, x :: r.2)

def State.setCal (s : State) (r : Option CalReq) : State := { s with cal := { s.cal with active := r } }

/-- A measurement begins: its first conversion is due on the lane; a kind 4 holds its GT at 0 (10 Table CAL-5, R255). -/
def State.calMeasure (s : State) (r : CalReq) : State :=
  let s := s.setCal (some { r with measuring := true, outs := [] })
  let s := if r.kind = 4 then { s with afe := { s.afe with gt := s.afe.gt.set (r.tia % 2) 0 (by omega) } } else s
  s.onLane r.lane fun x => { x with due := true }

/-- What a CAL booking for sector n does. -/
def State.calStep (s : State) (n : Sector) : State :=
  match s.cal.active with
  | some r => if r.measurements ≤ r.means.length then s.calComplete r else s.calMeasure r
  | none =>
    match takeFirst (fun r => decide (r.sec = n) && s.calEligible r) s.cal.queue with
    | none => s
    | some (r, rest) =>
      let s : State := { s with cal := { s.cal with queue := rest } }
      let s := (s.onLane r.lane fun x => { x.stop with thr := Vector.replicate 16 {} }).put (F.LANE_SEQ_SEQ r.lane) 0
      (s.setMode r.lane 9).calMeasure r

/-- A CAL booking, 256 cyc (10 R247, R248). -/
def execCalBooking (s : State) : Host.Outcome State Fault Refusal :=
  if s.slotRoom 4 < 256 then .next s else
  match s.calPending with
  | none => .next s
  | some n => .next ((s.calStep n).book n 256)

/-- The mean of a measurement's outputs in 2^-16 unity-gain LSB: divided by the profile's DC gain, Dc^N Σc L MA_SCALE / 2^(S1 + S2 + S3)
over the 2^17 of unity (10 R243, 09 R210 to R213). -/
def State.calMean (s : State) (r : CalReq) : Int :=
  let p := r.prof.getD {}
  let fir : Int := if p.ntaps = 0 then 1 else ((List.range p.ntaps).map (s.firCoef r.lane p)).sum
  let gain := (p.dc ^ p.order : Nat) * fir * (p.len * (if p.scale = 0 then 1 else p.scale) : Nat)
  let shift := p.s1 + (if p.ntaps = 0 then 0 else p.s2) + p.s3
  let sum := (r.outs.map (·.toInt)).sum
  match quotient (sum * meanScale * 2 ^ (17 + shift)) (r.outs.length * gain) with
  | some m => m
  | none => Config.calNoGain sum

/-- The conversions of the measurement in progress on a lane are done. -/
def State.calMeasured (s : State) (i : LaneId) : Bool :=
  s.cal.active.any fun r => r.measuring && decide (r.lane = i ∧ r.conversions ≤ r.outs.length)

/-- The measurement in progress on a lane, its conversions done, ends: a foreground request goes on to its next measurement or completes, a background
one waits for its next booking (10 R246, R247, R255). Words held for its units are applied (R249). -/
def execCalMeasurementEnd (i : LaneId) (s : State) : Host.Outcome State Fault Refusal :=
  match s.cal.active with
  | none => .next s
  | some r =>
    if !s.calMeasured i then .next s else
    let r := { r with means := r.means ++ [s.calMean r], measuring := false }
    let s := (s.setCal (some r)).applyAllHeld
    if !r.fg then .next s
    else if r.measurements ≤ r.means.length then .next (s.calComplete r)
    else .next (s.calMeasure r)

/-- A pending record enters the flash queue when an entry is free (10 R252). -/
def execCalStoreRetry (s : State) : Host.Outcome State Fault Refusal :=
  match s.cal.pstore with
  | none => .next s
  | some b =>
    if s.flashFull then .next s
    else .next ({ s with cal := { s.cal with pstore := none } }.enqueueFlash (flashOp 6 0 0 0 0 b))

/-! ## Age and staleness (10 R251) -/

/-- Every set's age increments, saturating at 255. -/
def execAgecIncrement (s : State) : Host.Outcome State Fault Refusal :=
  .next ((List.range 32).foldl (fun s k =>
    let a := 0x900 + 4 * k + 3
    s.setCurve a (BitVec.ofNat 18 (Nat.min ((s.curveWord a).toNat % 256 + 1) 255))) s)

/-! ## Access to the curve memory (10 R238, R254) -/

/-- The field with an accessor's pointer. -/
def curvePtr : Accessor → Fld
  | .prog n => F.CRV_PA_PTR n
  | .host _ => F.CRV_PAH_PTR

/-- The descriptor whose records hold an address, below 300h. -/
def curveDesc (a : Nat) : Nat := if a < 0x100 then a / 4 else if a < 0x140 then a - 0x100 else (a - 0x200) / 4

def curveIsRecord (a : Nat) : Bool := decide (a < 0x100) || decide (0x200 ≤ a ∧ a < 0x300)

def curveIsTable (a : Nat) : Bool := decide (0x400 ≤ a ∧ a < 0x808)

def curveIsCoef (a : Nat) : Bool := decide (0x900 ≤ a ∧ a < 0x9A8)

/-- Reserved addresses read 0 (10 Table CAL-9). -/
def curveIsReserved (a : Nat) : Bool :=
  !(curveIsRecord a || decide (0x100 ≤ a ∧ a < 0x140) || curveIsTable a || curveIsCoef a)

/-- The bits an address keeps. -/
def curveBits (a : Nat) : Word :=
  if 0x200 ≤ a ∧ a < 0x300 ∧ a % 4 = 3 then 0
  else if 0x800 ≤ a ∧ a < 0x808 then 0x7F
  else if 0x900 ≤ a ∧ a < 0x980 ∧ a % 4 = 3 then 0xFF
  else if 0x980 ≤ a ∧ a < 0x9A0 then 0xFF
  else 0x3FFFF

/-- A read is permitted (10 Table CAL-9). -/
def State.curveReadable (s : State) (n : Sector) (a : Nat) : Bool :=
  if curveIsRecord a || decide (0x100 ≤ a ∧ a < 0x140) then decide (n = 0) || s.hasDesc n (curveDesc a) else true

/-- A write is permitted: a record by the sector granted its descriptor, a table by the holder of lock 15, a coefficient by sector 0's
program with lock 7 while no calibration is active. -/
def State.curveWritable (s : State) (acc : Accessor) (a : Nat) : Bool :=
  let n := acc.sector
  if curveIsRecord a then s.hasDesc n (curveDesc a)
  else if curveIsTable a then s.holds n 15
  else if curveIsCoef a then acc.isProg && decide (n = 0) && s.holds 0 7 && s.cal.active.isNone
  else false

def State.stageCurve (s : State) (a : Nat) (v : Option Word) : State :=
  { s with cal := { s.cal with staged := storeWrite (fun _ => none) s.cal.staged a v } }

/-- Commit the staged words among three from `a` on. -/
def commitCurve (a : Nat) : Nat → State → State
  | 0, s => s
  | k + 1, s =>
    let s := match storeRead (fun _ => none) s.cal.staged a with
      | some v => (s.setCurve a v).stageCurve a none
      | none => s
    commitCurve (a + 1) k s

/-- A permitted write: words 0 to 2 of a record are staged, word 3 commits (10 R238). -/
def State.writeCurve (s : State) (a : Nat) (v : Word) : State :=
  let v := v &&& curveBits a
  if curveIsRecord a then
    if a % 4 = 3 then (commitCurve (a - 3) 3 s).setCurve a v else s.stageCurve a (some v)
  else s.setCurve a v

/-- The pointer after an access, modulo 4096. -/
def State.stepCurvePtr (s : State) (acc : Accessor) : State := s.put (curvePtr acc) (s.get (curvePtr acc) + 1)

/-- A read through CRV_PD: the word, whether it was denied, and the state after it. -/
def State.readCurvePd (s : State) (acc : Accessor) : Word × Bool × State :=
  let a := s.get (curvePtr acc)
  if s.curveReadable acc.sector a then (if curveIsReserved a then 0 else s.curveWord a, false, s.stepCurvePtr acc)
  else (0, true, (s.refused acc).stepCurvePtr acc)

/-- A write refused as any (04 R90); a program's write of a user table for which it has the grant but not lock 15 counts in NHn (01 R22). -/
def State.refusedCurve (s : State) (acc : Accessor) (a : Nat) : State :=
  match acc with
  | .prog n => if curveIsTable a ∧ s.hasUnit n 15 then s.noLock n else s.refused acc
  | .host _ => s.refused acc

/-- A write through CRV_PD: whether it was denied, and the state after it. -/
def State.writeCurvePd (s : State) (acc : Accessor) (v : Word) : Bool × State :=
  let a := s.get (curvePtr acc)
  if s.curveWritable acc a then (false, (s.writeCurve a v).stepCurvePtr acc)
  else (true, (s.refusedCurve acc a).stepCurvePtr acc)

/-! ## Restoring coefficients (10 R253) -/

/-- Every coefficient address: OFS and GCOR of 32 sets, 32 trims, 8 GT, SOFS, SGAIN and SREF of 64 descriptors. -/
def coefAddrs : List Nat :=
  ((List.range 32).map fun k => [0x900 + 4 * k, 0x901 + 4 * k]).flatten ++ (List.range 32).map (0x980 + ·) ++
    (List.range 8).map (0x9A0 + ·) ++ ((List.range 64).map fun d => [0x200 + 4 * d, 0x201 + 4 * d, 0x202 + 4 * d]).flatten

/-- The factory trim of a coefficient, from OTP 100h to 5FFh (10 R253, 12 Table MEM-8), whose layout spec/ does not state. -/
def State.factoryTrim (s : State) (a : Nat) : Word :=
  Config.factoryTrim (s.mem.otp.filter fun c => decide (0x100 ≤ c.1 ∧ c.1 < 0x600)) a

/-- A coefficient from the highest-SEQ record that carries it; a self-calibration set takes its TCAL, and AGEC 255. -/
def State.restoreCoef (s : State) (a : Nat) : State :=
  match s.bestRecord a with
  | some (_, b) =>
    let v := match (recordCoefs b).find? fun c => decide (c.1 = a) with
      | some c => c.2
      | none => 0
    let s := s.setCurve a (v &&& curveBits a)
    if 0x900 ≤ a ∧ a < 0x980 then
      let set := a / 4 * 4
      (s.setCurve (set + 2) ((BitVec.ofNat 16 (beNat ((b.drop 10).take 2))).signExtend 18)).setCurve (set + 3) 255
    else s
  | none =>
    let s := s.setCurve a (s.factoryTrim a &&& curveBits a)
    let partner := a / 4 * 4 + (1 - a % 4)
    if 0x900 ≤ a ∧ a < 0x980 ∧ (s.bestRecord partner).isNone then
      (s.setCurve (a / 4 * 4 + 2) 200).setCurve (a / 4 * 4 + 3) 255
    else s

end Sys2Proof.Machine
end

