-- ==== Sys2Proof/Machine/Outputs.lean ====
section
/-! DEFINITION. Field switches and analog outputs (11): commands, transitions, faults, dispositions, shared outputs and the monitor.
OUT_FSWn.STATE and OUT_AOSTn.STATE hold the states of Tables OUT-1 and OUT-3. -/

namespace Sys2Proof.Machine

def State.onFsw (s : State) (k : Fin 4) (f : FswSt → FswSt) : State :=
  { s with out := { s.out with fsw := s.out.fsw.set k (f s.out.fsw[k]) } }

def State.onAo (s : State) (n : Fin 2) (f : AoutSt → AoutSt) : State :=
  { s with out := { s.out with ao := s.out.ao.set n (f s.out.ao[n]) } }

/-- An event of the unit that lock k guards: to the lock's holder, else to the sectors granted the unit (03 R74, 11 R259;
notes/assumptions/31.md). -/
def State.unitEvent (s : State) (k e : Nat) : State :=
  if s.isSet (F.LOCK_ST_HELD k) then s.raiseWhere (fun n => s.holds n k) e else s.raiseWhere (fun n => s.hasUnit n k) e

/-- A switch fault: event FSWF and wake source 8 (06 Table PWR-7). -/
def State.fswEvent (s : State) (k : Nat) : State := (s.unitEvent (10 + k) 16).noteSource 8 6

def State.aoEvent (s : State) (n : Nat) : State := s.unitEvent (8 + n) 17

def switches : List (Fin 4) := [0, 1, 2, 3]

def aouts : List (Fin 2) := [0, 1]

/-! ## Field switches (11 R256 to R259, R269) -/

def fswShared (s : State) (k : Nat) : Bool := s.isSet ⟨A.OUT_SHCTL, k, k⟩

def aoShared (s : State) (n : Nat) : Bool := s.isSet ⟨A.OUT_SHCTL, 4 + n, 4 + n⟩

def State.fswState (s : State) (k : Nat) : Nat := s.get (F.OUT_FSW_STATE k)

/-- The switch carries current: TURNON, ON or LIMIT. -/
def State.fswClosed (s : State) (k : Nat) : Bool := decide (s.fswState k ∈ [1, 2, 4])

/-- Replace the pending command. -/
def State.setPend (s : State) (k : Fin 4) (p : Option Bool) : State :=
  (s.onFsw k fun x => { x with pend := p }).put (F.OUT_FSW_PEND k) (bit p.isSome)

/-- Enter a state of Table OUT-1; the 60 s of R257 start with ON, the 1.0 ms of R258 with LIMIT. -/
def State.fswEnter (s : State) (k : Fin 4) (st : Nat) : State :=
  (s.onFsw k fun x => { x with onTicks := 0, limTicks := 0, retryLeft := if st = 6 then x.retryLeft else 0 }).put (F.OUT_FSW_STATE k) st

/-- The current limit in mA, halved while the thermal level is HOT (11 R258, Table OUT-7, 07 R178). -/
def State.fswLimit (s : State) (k : Fin 4) : Nat :=
  let full := 300 + (Config.fswLimit k).val
  if s.get F.THERM_STAT_LEVEL = 2 then full / 2 else full

/-- Start a soft turn-off. -/
def State.fswTurnOff (s : State) (k : Fin 4) : State := (s.fswEnter k 3).put (F.OUT_FSW_CMD k) 0

/-- A transition meets a command: one that restores its target clears the pending command, another replaces it (11 R269). -/
def State.fswOverlap (s : State) (k : Fin 4) (target on : Bool) : State :=
  let had := s.out.fsw[k].pend.isSome
  let s := if had then s.bump F.OUT_STAT_REPL else s
  s.setPend k (if on = target then none else some on)

/-- ON or OFF taken by the switch (11 R256, R257, R267, R269). A RELEASED switch keeps it from the pin, and below UVLO only CMD changes
(R259). -/
def State.fswDrive (s : State) (k : Fin 4) (on : Bool) : State :=
  let st := s.fswState k
  let s := s.put (F.OUT_FSW_CMD k) (bit on)
  if st = 5 then s
  else if st = 6 then if on then s else s.fswEnter k 5
  else if s.out.fsw[k].rel then s
  else if s.isSet F.OUT_STAT_VUV then s
  else if st = 1 then s.fswOverlap k true on
  else if st = 3 then s.fswOverlap k false on
  else if st = 0 then if on then s.fswEnter k 1 else s
  else if on then s else s.fswTurnOff k

/-- CLEAR taken by the switch. -/
def State.fswClear (s : State) (k : Fin 4) : State :=
  let st := s.fswState k
  let s := (s.put (F.OUT_FSW_LATCH k) 0).put (F.OUT_FSW_RCNT k) 0
  if st = 5 ∨ st = 6 then (s.fswEnter k 0).put (F.OUT_FSW_CMD k) 0 else s

/-- Operation 0 OFF, 1 ON, 2 CLEAR. -/
def State.fswDo (s : State) (k : Fin 4) (op : Nat) : State :=
  if op = 2 then s.fswClear k else s.fswDrive k (decide (op = 1))

/-- An operation taken while the domain is not ON, or leaves it, waits (11 R256). -/
def State.fswTake (s : State) (k : Fin 4) (op : Nat) : State :=
  if s.settledOn .fsw then s.fswDo k op else s.onFsw k fun x => { x with wait := x.wait ++ [op] }

/-- fsw: the holder of lock 10 + k commands its switch; DA clears (11 R266, R272). -/
def sylFsw (k : Fin 4) (op : Nat) (n : Sector) (s : State) : State :=
  s.guardUnit n (10 + k) fun s => (s.put (F.OUT_FSW_DA k) 0).fswTake k op

def execFswOn (u : Fin 4) (_a : Fin 16) (s : State) : Host.Outcome State Fault Refusal := .next (issueAlone (sylFsw u 1) s)

def execFswOff (u : Fin 4) (_a : Fin 16) (s : State) : Host.Outcome State Fault Refusal := .next (issueAlone (sylFsw u 0) s)

def execFswClear (u : Fin 4) (_a : Fin 16) (s : State) : Host.Outcome State Fault Refusal := .next (issueAlone (sylFsw u 2) s)

/-- The gate ramp is complete. -/
def execFswTurnonComplete (k : Fin 4) (s : State) : Host.Outcome State Fault Refusal :=
  .next (if s.fswState k = 1 then s.fswEnter k 2 else s)

/-- A protective action ends the transition and drops the pending command (11 R269). -/
def State.fswCut (s : State) (k : Fin 4) : State := s.setPend k none

/-- Ticks of the retry interval (11 Table OUT-8). -/
def retryTicks (r : Nat) : Nat := [0, 3277, 32768, 327680].getD r 0

/-- Entry to LATCHED: the retry limit is flagged, or the switch goes on to RETRYWAIT (11 Table OUT-1). -/
def State.fswLatched (s : State) (k : Fin 4) : State :=
  let r := s.get (F.OUT_FSWCFG_RETRY k)
  let lim := s.get (F.OUT_FSWCFG_RLIM k)
  let cnt := s.get (F.OUT_FSW_RCNT k)
  if lim ≠ 0 ∧ cnt = lim then (s.setFlag (F.OUT_FSW_RLIMF k)).fswEvent k
  else if r ≠ 0 ∧ s.isSet (F.OUT_FSW_CMD k) ∧ (lim = 0 ∨ cnt < lim) then
    (s.onFsw k fun x => { x with retryLeft := retryTicks r }).fswEnter k 6
  else s

/-- Latch off: hard off, the cause's flag, LATCH, FSWF. -/
def State.fswLatchOff (s : State) (k : Fin 4) (cause : Fld) : State :=
  let s := ((s.fswCut k).fswEnter k 5).setFlag cause
  ((s.setFlag (F.OUT_FSW_LATCH k)).fswEvent k).fswLatched k

/-- The load current meets the limit: a closed switch whose load has reached it limits, and one that limits goes on in ON when the load is
below it again. -/
def State.settleLimit (s : State) (k : Fin 4) : State :=
  if s.fswLimit k ≤ s.out.fsw[k].load then if s.fswState k = 1 ∨ s.fswState k = 2 then s.fswEnter k 4 else s
  else if s.fswState k = 4 then s.fswEnter k 2 else s

/-- The load would draw `load` mA through the switch. -/
def execFswLimit (k : Fin 4) (load : Nat) (s : State) : Host.Outcome State Fault Refusal :=
  .next ((s.onFsw k fun x => { x with load := load }).settleLimit k)

/-- 1.0 ms of limiting without a break: 0.9 ms at least, which spans 29 edges (11 R258, Table OUT-7). -/
def execFswLatchOff (k : Fin 4) (s : State) : Host.Outcome State Fault Refusal :=
  .next (if s.fswState k = 4 ∧ 29 ≤ s.out.fsw[k].limTicks then s.fswLatchOff k (F.OUT_FSW_OC k) else s)

/-- Thermal shutdown at 165 °C, or reverse current. -/
def execFswTrip (k : Fin 4) (reverse : Bool) (s : State) : Host.Outcome State Fault Refusal :=
  .next (
    let s := if reverse then s else s.onFsw k fun x => { x with hot := true }
    if s.fswClosed k then s.fswLatchOff k (if reverse then F.OUT_FSW_REV k else F.OUT_FSW_TSD k) else s)

/-- A retry may close the switch: its interval has elapsed, it is cool, and it is not RELEASED. -/
def State.fswRetries (s : State) (k : Fin 4) : Bool :=
  decide (s.fswState k = 6 ∧ s.out.fsw[k].retryLeft = 0) && !s.out.fsw[k].hot && !s.out.fsw[k].rel

/-- A retry, the switch being below 145 °C or not. -/
def execFswRetry (k : Fin 4) (s : State) (cool : Bool := true) : Host.Outcome State Fault Refusal :=
  .next (
    let s := s.onFsw k fun x => { x with hot := !cool }
    if s.fswRetries k then (s.bump (F.OUT_FSW_RCNT k)).fswEnter k 1 else s)

/-- 60 s in ON without a fault, 1,966,080 ticks. -/
def execRcntClear (k : Fin 4) (s : State) : Host.Outcome State Fault Refusal :=
  .next (if s.fswState k = 2 ∧ 1966080 ≤ s.out.fsw[k].onTicks then s.put (F.OUT_FSW_RCNT k) 0 else s)

/-! ## Analog outputs (11 R262 to R265, R269) -/

def State.aoState (s : State) (n : Nat) : Nat := s.get (F.OUT_AOST_STATE n)

/-- Enter a state of Table OUT-3; the monitor's quiet time starts again (11 R265). -/
def State.aoEnter (s : State) (n : Fin 2) (st : Nat) : State :=
  ((s.onAo n fun x => { x with differ := 0, since := s.tick }).put (F.OUT_AOST_STATE n) st).put (F.OUT_AOST_RANGEBUSY n) (bit (decide (st = 4)))

/-- Put a code in force. -/
def State.aoCode (s : State) (n : Fin 2) (v : Word) (coded : Bool) : State :=
  (s.onAo n fun x => { x with coded := coded, differ := 0, since := s.tick }).setWord (A.OUT_AOCODE n) v

/-- Drop a held code and a pending control word. -/
def State.aoCut (s : State) (n : Fin 2) : State :=
  ((s.onAo n fun x => { x with held := none, ctl := none }).put (F.OUT_AOST_CPEND n) 0).put (F.OUT_AOCTL_PEND n) 0

/-- Begin the 64 µs ramp to range zero that ends in state `st`. -/
def State.aoRamp (s : State) (n : Fin 2) (st : Nat) : State :=
  ((s.aoCut n).onAo n fun x => { x with ramp := some st }).put (F.OUT_AOST_RANGEBUSY n) 0

/-- What an analog output's pin carries (11 R262, R263, R267): the internal pull-down, nothing, the ramp to range zero, or a level, in
2^-18 µV or 2^-18 nA. -/
inductive AoPin where
  | pulldown | released | ramping
  | volts (level : Nat)
  | amps (level : Nat)
  deriving DecidableEq, Repr

/-- FS of a range, in µV or nA (11 Table OUT-2). -/
def aoFullScale (rng : Nat) : Nat := if rng = 0 then 5000000 else if rng = 1 then 10000000 else 24000000

/-- The level that a code puts out in a range with VFLD at `vfld` µV: code × FS / 2^18, and 0 to 10 V below a VFLD of 12 V at most VFLD − 2 V
(11 R262). -/
def aoLevel (rng code vfld : Nat) : AoPin :=
  let full := code * aoFullScale rng
  if rng = 2 then .amps full
  else .volts (if rng = 1 ∧ vfld < 12000000 then Nat.min full ((vfld - 2000000) * 2 ^ 18) else full)

/-- The states in which the stage drives: PARK to FAULT. -/
def State.aoEnabled (s : State) (n : Fin 2) : Bool := decide (2 ≤ s.aoState n ∧ s.aoState n ≤ 6) && s.out.ao[n].ramp.isNone

/-- The analog output's pin, VFLD being `vfld` µV (11 R262 to R264, R267): range zero in RANGE once the ramp to the old one's is done. -/
def State.aoPin (s : State) (n : Fin 2) (vfld : Nat) : AoPin :=
  let st := s.aoState n
  if s.out.ao[n].ramp.isSome then .ramping
  else if st = 7 ∨ s.out.ao[n].rel then .released
  else if st < 2 then .pulldown
  else if st = 4 then .ramping
  else aoLevel (s.get (F.OUT_AOCTL_RNG n)) (s.word (A.OUT_AOCODE n)).toNat vfld

/-- PULLDOWN to PARK at the park code. -/
def State.aoPark (s : State) (n : Fin 2) : State := (s.aoEnter n 2).aoCode n (s.word (A.OUT_AOPARK n)) false

/-- EN, RNG, FACT and LIM43 of a control word in force. -/
def State.aoWord (s : State) (n : Fin 2) (v : Word) : State := s.setBits (A.OUT_AOCTL n) 0x3F000 v

/-- A control word taken (11 Table OUT-3, R262, R267, R269). -/
def State.aoControl (s : State) (n : Fin 2) (v : Word) : State :=
  let en := v.getLsbD 17
  let rng := bits v 16 15
  if rng = 3 then s.setFlag (F.OUT_AOST_RNGX n)
  else if s.out.ao[n].ramp.isSome ∨ s.aoState n = 4 then
    let x := s.out.ao[n]
    let s := if x.ctl.isSome then s.bump F.OUT_STAT_REPL else s
    let keeps := if x.ramp.isSome then !en else en && decide (rng = s.get (F.OUT_AOCTL_RNG n))
    if keeps then ((s.aoWord n v).onAo n fun x => { x with ctl := none }).put (F.OUT_AOCTL_PEND n) 0
    else (s.onAo n fun x => { x with ctl := some v }).setFlag (F.OUT_AOCTL_PEND n)
  else
    let newRange := decide (rng ≠ s.get (F.OUT_AOCTL_RNG n))
    let t := s.aoWord n v
    if s.aoState n = 1 then if en then t.aoPark n else t
    else if s.aoEnabled n then if !en then t.aoRamp n 1 else if newRange then t.aoEnter n 4 else t
    else t

/-- A code as aout clamps it (11 R262): 3.8 to 20.5 mA under LIM43 in the current range. -/
def State.aoClamped (s : State) (n : Fin 2) (v : Word) : Word :=
  if s.isSet (F.OUT_AOCTL_LIM43 n) ∧ s.get (F.OUT_AOCTL_RNG n) = 2 then
    if v.toNat < 41506 then 41506 else if 223915 < v.toNat then 223915 else v
  else v

/-- A code taken: held during a range change, else in force; a driving output goes to DRIVE (11 R263, R264, R267). -/
def State.aoTakeCode (s : State) (n : Fin 2) (v : Word) : State :=
  if s.aoState n = 4 ∧ s.out.ao[n].ramp.isNone then (s.onAo n fun x => { x with held := some v }).setFlag (F.OUT_AOST_CPEND n)
  else
    let t := s.aoCode n v true
    if s.aoEnabled n then t.aoEnter n 3 else t

/-- SAFE: the output drives its SAFE code in its present range (11 R266; notes/assumptions/32.md). -/
def State.aoSafe (s : State) (n : Fin 2) : State :=
  let v := s.word (A.OUT_AOSAFE n)
  let t := s.setFlag (F.OUT_AOCTL_EN n)
  if s.out.ao[n].ramp = some 1 ∨ (s.aoState n = 1 ∧ s.out.ao[n].ramp.isNone) then
    ((t.onAo n fun x => { x with ramp := none }).aoCode n v true).aoEnter n 3
  else t.aoTakeCode n v

def State.aoDo (s : State) (n : Fin 2) : AoWait → State
  | .ctl v => s.aoControl n v
  | .code v => s.aoTakeCode n (s.aoClamped n v)
  | .safe => s.aoSafe n

/-- A command taken while the AOUT domain is not ON, or leaves it, waits (11 R263). -/
def State.aoTake (s : State) (n : Fin 2) (c : AoWait) : State :=
  if s.settledOn .aout then s.aoDo n c else
  let s := s.onAo n fun x => { x with wait := x.wait ++ [c] }
  match c with
  | .ctl _ => s.setFlag (F.OUT_AOCTL_PEND n)
  | _ => s

/-- aout and aoctl: the holder of lock 8 + n commands its output; DA clears. -/
def sylAout (n : Fin 2) (a : Fin 16) (sec : Sector) (s : State) : State :=
  s.guardUnit sec (8 + n) fun s => (s.put (F.OUT_AOST_DA n) 0).aoTake n (.code (s.secs[sec].rdW a))

def sylAoctl (n : Fin 2) (a : Fin 16) (sec : Sector) (s : State) : State :=
  s.guardUnit sec (8 + n) fun s => (s.put (F.OUT_AOST_DA n) 0).aoTake n (.ctl (s.secs[sec].rdW a))

def execAout (u : Fin 2) (a _b : Fin 16) (s : State) : Host.Outcome State Fault Refusal := .next (issueAlone (sylAout u a) s)

def execAoctl (u : Fin 2) (a _b : Fin 16) (s : State) : Host.Outcome State Fault Refusal := .next (issueAlone (sylAoctl u a) s)

/-- A range change ends after 200 µs: the held code applies, else the output stays at the new range's zero (11 R264). -/
def execAoRangeComplete (n : Fin 2) (s : State) : Host.Outcome State Fault Refusal :=
  .next (
    if s.aoState n ≠ 4 then s else
    match s.out.ao[n].held with
    | some v =>
      (((s.aoEnter n 3).aoCode n v true).onAo n fun x => { x with held := none }).put (F.OUT_AOST_CPEND n) 0
    | none => (s.aoEnter n 5).aoCode n 0 false)

/-! ## Release of shared outputs and of TWCLM (11 R267, R268) -/

/-- Every shared output has reached RELEASED: no switch is still turning off for it, and no output that is released still ramps. -/
def State.allReleased (s : State) : Bool :=
  (switches.all fun (k : Fin 4) => !s.out.fsw[k].releasing) &&
    aouts.all fun (n : Fin 2) => s.out.ao[n].ramp.isNone || !(s.out.ao[n].rel || decide (s.out.ao[n].ramp = some 7))

/-- TWCLM falls with CLMOWN once the outputs are released, where a release of the line is called for; a device that yields becomes
STANDBY (14 R335). -/
def State.settleClaim (s : State) : State :=
  if s.tw.dropClaim ∧ s.allReleased then
    let yields := s.tw.yielding
    let s := ({ s with tw := { s.tw with dropClaim := false, claimAge := 0, claimOk := false, yielding := false } }).put F.TW_STAT_CLMOWN 0
    if yields then s.setRole 2 else s
  else s

/-- VFLD falls below UVLO (11 R259): every switch to OFF with CMD kept, FSWF in each sector that holds a switch's lock. -/
def execVfldUvlo (s : State) : Host.Outcome State Fault Refusal :=
  let s := s.setFlag F.OUT_STAT_VUV
  let s := switches.foldl (fun s (k : Fin 4) =>
    if s.fswState k = 0 then s.fswCut k
    else ((s.fswCut k).fswEnter k 0).onFsw k fun x => { x with rel := x.rel || x.releasing, releasing := false }) s
  let s := s.settleClaim
  .next ((s.raiseWhere (fun n => switches.any fun (k : Fin 4) => s.holds n (10 + k.val)) 16).noteSource 8 6)

/-- VFLD rises above the release threshold: each switch with CMD = 1 enters TURNON. -/
def execVfldUvloRelease (s : State) : Host.Outcome State Fault Refusal :=
  let s := s.put F.OUT_STAT_VUV 0
  .next (switches.foldl (fun s (k : Fin 4) =>
    if s.isSet (F.OUT_FSW_CMD k) ∧ s.fswState k = 0 ∧ !s.out.fsw[k].rel then s.fswTake k 1 else s) s)

/-- A switch goes to RELEASED: a closed one through TURNOFF, an open one at once and in its state (11 Table OUT-1). -/
def State.fswRelease (s : State) (k : Fin 4) : State :=
  let x := s.out.fsw[k]
  if x.rel ∨ x.releasing then s else
  let s := s.fswCut k
  if s.fswClosed k then (s.fswTurnOff k).onFsw k fun x => { x with releasing := true }
  else if s.fswState k = 3 then s.onFsw k fun x => { x with releasing := true }
  else s.onFsw k fun x => { x with rel := true }

/-- An analog output goes to RELEASED: a driving one through the 64 µs ramp. -/
def State.aoRelease (s : State) (n : Fin 2) : State :=
  if s.aoState n = 7 then s
  else if s.aoState n = 0 then s.onAo n fun x => { x with rel := true }
  else if s.out.ao[n].ramp.isSome ∨ s.aoEnabled n then s.aoRamp n 7
  else (s.aoCut n).aoEnter n 7

/-- The shared outputs are released. -/
def State.releaseShared (s : State) : State :=
  let s := { s with out := { s.out with drive := false } }
  let s := switches.foldl (fun s (k : Fin 4) => if fswShared s k then s.fswRelease k else s) s
  aouts.foldl (fun s (n : Fin 2) => if aoShared s n then s.aoRelease n else s) s

/-- A switch leaves RELEASED for the state its commands select (11 R267). -/
def State.fswResume (s : State) (k : Fin 4) : State :=
  if s.out.fsw[k].rel then
    let s := s.onFsw k fun x => { x with rel := false }
    if s.isSet (F.OUT_FSW_CMD k) then s.fswTake k 1 else s
  else s.onFsw k fun x => { x with releasing := false }

/-- An analog output leaves RELEASED for the state its control word and code select. -/
def State.aoResume (s : State) (n : Fin 2) : State :=
  let s := s.onAo n fun x => { x with rel := false }
  if s.aoState n ≠ 7 then s
  else if !s.isSet (F.OUT_AOCTL_EN n) then s.aoEnter n 1
  else if s.out.ao[n].coded then s.aoEnter n 3 else s.aoPark n

/-- A PRIMARY or SOLO device has held TWCLM for BRK ticks and is not letting go of it; a BRK of 0 to 7 acts as 8. -/
def State.mayDrive (s : State) : Bool :=
  let role := s.get F.TW_STAT_ROLE
  s.isSet F.TW_STAT_CLMOWN && !s.tw.dropClaim && decide (role = 0 ∨ role = 3) && decide (Nat.max 8 (s.get F.OUT_SHCTL_BRK) ≤ s.tw.claimAge)

/-- The shared outputs leave RELEASED. -/
def execSharedOutputDrive (s : State) : Host.Outcome State Fault Refusal :=
  .next (
    if s.mayDrive then
      let s := { s with out := { s.out with drive := true } }
      let s := switches.foldl (fun s (k : Fin 4) => if fswShared s k then s.fswResume k else s) s
      aouts.foldl (fun s (n : Fin 2) => if aoShared s n then s.aoResume n else s) s
    else s)

/-- OUT_SHCTL written: an output newly shared while the shared ones do not drive is released, one no longer shared leaves RELEASED. -/
def State.settleShared (s : State) : State :=
  let s := switches.foldl (fun s (k : Fin 4) =>
    if fswShared s k then if s.out.drive then s else s.fswRelease k else s.fswResume k) s
  aouts.foldl (fun s (n : Fin 2) =>
    if aoShared s n then if s.out.drive then s else s.aoRelease n else s.aoResume n) s

/-- The soft ramp is complete: the switch is OFF, or RELEASED with its pending command dropped. -/
def execFswTurnoffComplete (k : Fin 4) (s : State) : Host.Outcome State Fault Refusal :=
  .next (
    if s.fswState k ≠ 3 then s
    else if s.out.fsw[k].releasing then
      (((s.fswCut k).fswEnter k 0).onFsw k fun x => { x with releasing := false, rel := true }).settleClaim
    else s.fswEnter k 0)

/-- The 64 µs ramp to range zero ends in PULLDOWN, UNPOWERED or RELEASED. -/
def execAoutRampComplete (n : Fin 2) (s : State) : Host.Outcome State Fault Refusal :=
  .next (
    match s.out.ao[n].ramp with
    | none => s
    | some st => ((s.onAo n fun x => { x with ramp := none }).aoEnter n st).settleClaim)

/-- The pending command of output u starts after the transition, its domain being ON: switches 0 to 3, then AOUT0 and AOUT1 (11 R269). -/
def execOutputPendingStart (u : Fin 6) (s : State) : Host.Outcome State Fault Refusal :=
  .next (
    if h : u.val < 4 then
      let k : Fin 4 := ⟨u, h⟩
      match s.out.fsw[k].pend with
      | some on => if s.fswState k ∈ [0, 2, 4] ∧ s.settledOn .fsw then (s.setPend k none).fswDrive k on else s
      | none => s
    else
      let n : Fin 2 := ⟨u - 4, by omega⟩
      match s.out.ao[n].ctl with
      | some v =>
        if s.aoState n = 4 ∨ s.out.ao[n].ramp.isSome ∨ !s.settledOn .aout then s
        else ((s.onAo n fun x => { x with ctl := none }).put (F.OUT_AOCTL_PEND n) 0).aoControl n v
      | none => s)

/-! ## Dispositions (11 R266) -/

/-- A disposition code: 0 OFF, 1 HOLD, 2 SAFE; 11b as 00b. -/
def dispOf (v : Nat) : Nat := if v = 3 then 0 else v

/-- A switch takes its disposition; a protective one (entry to CRIT) cuts a transition short. -/
def State.fswDispose (s : State) (k : Fin 4) (protect : Bool) : State :=
  let d := dispOf (s.get ⟨A.OUT_DISP, 2 * k + 1, 2 * k⟩)
  let s := s.setFlag (F.OUT_FSW_DA k)
  if d = 1 then s else
  let on := decide (d = 2) && s.isSet ⟨A.OUT_DISP, 12 + k, 12 + k⟩
  let s := (s.put (F.OUT_FSW_LATCH k) 0).put (F.OUT_FSW_RCNT k) 0
  let s := if s.fswState k = 5 ∨ s.fswState k = 6 then (s.fswEnter k 0).put (F.OUT_FSW_CMD k) 0 else s
  let s := if protect then
      let s := s.fswCut k
      if s.fswState k = 1 then s.put (F.OUT_FSW_STATE k) 2
      else if s.fswState k = 3 ∧ !s.out.fsw[k].releasing then s.put (F.OUT_FSW_STATE k) 0 else s
    else s
  s.fswTake k (bit on)

/-- An analog output takes its disposition. -/
def State.aoDispose (s : State) (n : Fin 2) (protect : Bool) : State :=
  let d := dispOf (s.get ⟨A.OUT_DISP, 2 * n + 9, 2 * n + 8⟩)
  let s := s.setFlag (F.OUT_AOST_DA n)
  if d = 1 then s else
  let s := if protect then
      let s := s.aoCut n
      if s.aoState n = 4 ∧ s.out.ao[n].ramp.isNone then s.aoEnter n 5 else s
    else s
  if d = 2 then s.aoTake n .safe
  else s.aoTake n (.ctl (s.word (A.OUT_AOCTL n) &&& 0x1F000))

/-- The disposition of the unit that lock k guards, where it is an output (05 Table SEC-5). -/
def State.disposeLock (s : State) (k : Nat) : State :=
  if h : 10 ≤ k ∧ k < 14 then s.fswDispose ⟨k - 10, by omega⟩ false
  else if h : 8 ≤ k ∧ k < 10 then s.aoDispose ⟨k - 8, by omega⟩ false
  else s

/-- Every output takes its disposition: at entry to CRIT (11 Table OUT-5, 07 R178). -/
def State.disposeAll (s : State) : State :=
  let s := switches.foldl (fun s (k : Fin 4) => s.fswDispose k true) s
  aouts.foldl (fun s (n : Fin 2) => s.aoDispose n true) s

/-- A PIN, WDG or SOFT reset: shared outputs are released, the others take their dispositions; waiting commands are discarded. -/
def State.outputsReset (s : State) : State :=
  let s := switches.foldl (fun s (k : Fin 4) =>
    let s := s.onFsw k fun x => { x with wait := [] }
    if fswShared s k then s else s.fswDispose k false) s
  let s := aouts.foldl (fun s (n : Fin 2) =>
    let s := s.onAo n fun x => { x with wait := [] }
    if aoShared s n then s else s.aoDispose n false) s
  s.releaseShared

/-- POR and BOR: every output is off at once; shared ones are then RELEASED. The registers are set by the reset itself. -/
def State.outputsOff (s : State) : State :=
  let s := { s with out := {} }
  let s := switches.foldl (fun s (k : Fin 4) => s.put (F.OUT_FSW_STATE k) 0) s
  let s := aouts.foldl (fun s (n : Fin 2) => s.put (F.OUT_AOST_STATE n) 0) s
  s.releaseShared

/-! ## Domains (11 R256, R263) -/

/-- The FSW domain has reached ON: what waited acts, in order. -/
def State.fswDomainUp (s : State) : State :=
  switches.foldl (fun s (k : Fin 4) =>
    let ops := s.out.fsw[k].wait
    ops.foldl (fun s op => s.fswDo k op) (s.onFsw k fun x => { x with wait := [] })) s

/-- The FSW domain leaves ON for OFF: closed switches turn off softly. -/
def State.fswDomainDown (s : State) : State :=
  switches.foldl (fun s (k : Fin 4) => if s.fswClosed k then (s.fswCut k).fswTurnOff k else s) s

/-- The FSW domain is OFF: gate drives are off. -/
def State.fswDomainOff (s : State) : State :=
  (switches.foldl (fun s (k : Fin 4) => if s.fswState k = 3 ∨ s.fswClosed k then
    ((s.fswCut k).fswEnter k 0).onFsw k fun x => { x with rel := x.rel || x.releasing, releasing := false } else s) s).settleClaim

/-- The AOUT domain has reached ON: PULLDOWN, or RELEASED for a shared output that may not drive; then what waited acts. -/
def State.aoDomainUp (s : State) : State :=
  aouts.foldl (fun s (n : Fin 2) =>
    let x := s.out.ao[n]
    let s := if s.aoState n = 0 then s.aoEnter n (if x.rel then 7 else 1) else s
    let s := (s.onAo n fun x => { x with wait := [], rel := false }).put (F.OUT_AOCTL_PEND n) 0
    x.wait.foldl (fun s c => s.aoDo n c) s) s

/-- The AOUT domain has left ON: ramps to range zero are over. -/
def State.aoDomainOff (s : State) : State :=
  (aouts.foldl (fun s (n : Fin 2) =>
    match s.out.ao[n].ramp with
    | some st => (s.onAo n fun x => { x with ramp := none }).aoEnter n st
    | none => s) s).settleClaim

/-- The AOUT domain leaves ON, for OFF or RET (11 Table OUT-3): driving outputs ramp to range zero, then UNPOWERED. -/
def State.aoDomainDown (s : State) : State :=
  aouts.foldl (fun s (n : Fin 2) =>
    let rel := decide (s.aoState n = 7 ∨ s.out.ao[n].ramp = some 7)
    let s := s.onAo n fun x => { x with rel := x.rel || rel }
    let s := s.put (F.OUT_AOCTL_EN n) 0
    if s.aoEnabled n ∨ s.out.ao[n].ramp.isSome then s.aoRamp n 0
    else if s.aoState n = 0 then s else (s.aoCut n).aoEnter n 0) s

/-! ## The output monitor (11 R260, R261, R265) -/

/-- The declared partner of a paired group. -/
def State.fswPartner (s : State) (k : Fin 4) : Option Nat :=
  let p := s.get (F.OUT_FSWCFG_PARTNER k)
  if s.isSet (F.OUT_FSWCFG_PEN k) ∧ s.isSet (F.OUT_FSWCFG_PEN p) ∧ s.get (F.OUT_FSWCFG_PARTNER p) = k.val ∧ p ≠ k.val then some p
  else none

/-- A backfeed is expected: the partner of a paired group is closed, or the switch is shared and the role neither PRIMARY nor SOLO. -/
def State.backfeedExpected (s : State) (k : Fin 4) : Bool :=
  (match s.fswPartner k with
   | some p => s.fswClosed p
   | none => false) ||
  (fswShared s k && decide (s.get F.TW_STAT_ROLE = 1 ∨ s.get F.TW_STAT_ROLE = 2))

/-- A sample of one switch; a closed switch has no backfeed. -/
def State.sampleFsw (s : State) (k : Fin 4) (high : Bool) : State :=
  if s.fswClosed k ∨ s.fswState k = 3 then
    (s.onFsw k fun x => { x with high := 0, low := 0, odd := 0 }).put (F.OUT_FSW_BFX k) 0
  else
    let odd := high && !s.backfeedExpected k
    let s := s.onFsw k fun x => { x with
      high := if high then Nat.min (x.high + 1) 2 else 0
      low := if high then 0 else Nat.min (x.low + 1) 2
      odd := if odd then Nat.min (x.odd + 1) 3 else 0 }
    let x := s.out.fsw[k]
    let s := if x.high = 2 then s.setFlag (F.OUT_FSW_BFX k) else if x.low = 2 then s.put (F.OUT_FSW_BFX k) 0 else s
    if x.odd = 2 then (s.setFlag (F.OUT_FSW_BF k)).fswEvent k else s

/-- The code a fault action puts out (11 Table OUT-4). -/
def State.faultCode (s : State) (n : Fin 2) : Word :=
  let f := s.get (F.OUT_AOCTL_FACT n)
  if s.get (F.OUT_AOCTL_RNG n) = 2 ∧ f = 2 then 38229
  else if s.get (F.OUT_AOCTL_RNG n) = 2 ∧ f = 3 then 234837
  else s.word (A.OUT_AOSAFE n)

/-- A sample of one output: the measured code, the stage at its limit, and VFLD below 12 V. -/
def State.sampleAo (s : State) (n : Fin 2) (o : AoObs) : State :=
  if !s.aoEnabled n then s else
  let rng := s.get (F.OUT_AOCTL_RNG n)
  let s := s.setWord (A.OUT_AORB n) o.code
  let s := if rng = 1 ∧ o.vlow then s.setFlag (F.OUT_AOST_VLOW n) else s
  let s := if rng ≠ 2 ∧ o.limit then s.setFlag (F.OUT_AOST_OVL n) else s
  if s.aoState n = 4 ∨ ticksFrom s.out.ao[n].since s.tick < 33 then s else
  let far := decide (5243 < ((o.code.toNat : Int) - (s.word (A.OUT_AOCODE n)).toNat).natAbs)
  let s := s.onAo n fun x => { x with differ := if far then Nat.min (x.differ + 1) 4 else 0 }
  if s.out.ao[n].differ ≠ 3 then s
  else if rng = 2 ∧ o.limit then (s.setFlag (F.OUT_AOST_COMP n)).aoEvent n
  else
    let s := (s.setFlag (F.OUT_AOST_FIGHT n)).aoEvent n
    if s.get (F.OUT_AOCTL_FACT n) = 0 ∨ s.aoState n = 6 then s
    else (s.aoCode n (s.faultCode n) true).aoEnter n 6

/-- The monitor samples, at edges with CLK_TICK a multiple of 32 alone: which switch pins read at least VFLD − 1.0 V, and the outputs. -/
def execOutputMonitorSample (high : Vector Bool 4) (ao : Vector AoObs 2) (s : State) : Host.Outcome State Fault Refusal :=
  if s.tick % 32 ≠ 0 then .next s else
  let s := if s.isOn .fsw then switches.foldl (fun s (k : Fin 4) => s.sampleFsw k high[k]) s else s
  .next (if s.isOn .aout then aouts.foldl (fun s (n : Fin 2) => s.sampleAo n ao[n]) s else s)

end Sys2Proof.Machine
end

