-- ==== Sys2Proof/Machine/Locks.lean ====
section
/-! DEFINITION. The sixteen locks: requests, releases, arbitration, revocation and forced idle (04 R106, R107, 05 R125, R126). -/

namespace Sys2Proof.Machine

/-- The sector's WAIT bit of a lock. -/
def fLockWait (k n : Nat) : Fld := ⟨A.LOCK_ST k, 4 + n, 4 + n⟩

def State.lockHeld (s : State) (k : Nat) : Bool := s.isSet (F.LOCK_ST_HELD k)

/-- The holder of a held lock. -/
def State.lockHolder (s : State) (k : Nat) : Sector := ⟨s.get (F.LOCK_ST_HOLDER k) % 4, by omega⟩

/-- PRIn of LOCK_PRI. -/
def State.lockPri (s : State) (n : Sector) : Nat := s.get ⟨A.LOCK_PRI, 2 * n + 1, 2 * n⟩

/-- The lock passes to sector n: its hold time restarts, its wait ends, and an abandoned lock tells its new holder once. -/
def State.giveLock (s : State) (k : Fin 16) (n : Sector) : State :=
  let ab := s.isSet (F.LOCK_ST_ABAND k)
  let s := s.onLock k fun x => { x with hold := 0, waiters := x.waiters.filter (· ≠ n), tell := ab }
  let s := ((s.put (F.LOCK_ST_HELD k) 1).put (F.LOCK_ST_HOLDER k) n).put (F.LOCK_ST_HTIME k) 0
  (s.put (F.LOCK_ST_ABAND k) 0).put (fLockWait k n) 0

/-- The waiter chosen: highest priority, then earliest request (the list's order); requests of one cycle come from one sector. -/
def State.chooseWaiter (s : State) : List Sector → Option Sector
  | [] => none
  | n :: l => match s.chooseWaiter l with
    | none => some n
    | some m => if s.lockPri n < s.lockPri m then some m else some n

/-- The unit of a lock freed by reset or revocation is forced idle (05 Table SEC-5); `n` held it. -/
def State.forceIdle (s : State) (k : Nat) (n : Sector) : State :=
  if h : k < 7 then s.idleAfe ⟨k, h⟩
  else if k = 7 then s.calAbort
  else if k < 14 then s.disposeLock k
  else if k = 14 then s.removeFlash n
  else s.dropTables

/-- How a lock is freed (05 R125). -/
inductive FreeBy where
  | release | reset | revoke
  deriving DecidableEq, Repr

/-- A held lock is freed, and granted at once to a waiter if there is one. -/
def State.freeLock (s : State) (k : Fin 16) (how : FreeBy) : State :=
  let n := s.lockHolder k
  let s := if how = .release then (if k = 15 then s.validateTables else s)
    else (s.forceIdle k n).setFlag (F.LOCK_ST_ABAND k)
  let s := (s.put (F.LOCK_ST_HELD k) 0).put (F.LOCK_ST_REVOKED k) (bit (decide (how = .revoke)))
  let s := (s.onLock k fun x => { x with tell := false }).calUnlocked
  match s.chooseWaiter s.locks[k].waiters with
  | none => s
  | some m => (s.giveLock k m).raise m 1

/-- A sector's wait for a lock is withdrawn. -/
def State.dropWait (s : State) (k : Fin 16) (n : Sector) : State :=
  (s.onLock k fun x => { x with waiters := x.waiters.filter (· ≠ n) }).put (fLockWait k n) 0

/-- lka: the status of Table INS-9 and the lock as it leaves it. -/
def State.requestLock (s : State) (k : Fin 16) (n : Sector) : Nat × State :=
  if !s.hasUnit n k then (5, s.noGrant n)
  else if s.lockHeld k then
    if s.lockHolder k = n then
      if s.locks[k].tell then (1, s.onLock k fun x => { x with tell := false }) else (2, s)
    else if n ∈ s.locks[k].waiters then (4, s)
    else (3, (s.onLock k fun x => { x with waiters := x.waiters ++ [n] }).setFlag (fLockWait k n))
  else
    let s := s.giveLock k n
    (bit s.locks[k].tell, s.onLock k fun x => { x with tell := false })

/-- lka pD, wS, #k. -/
def sylLka (n : Sector) (d a b : Fin 16) (s : State) : State :=
  let (st, s) := s.requestLock b n
  (s.toW n 2 a (BitVec.ofNat 18 st) false).toP n 2 d (decide (st ≤ 2))

/-- lkr of a lock neither held nor awaited sets ARG and counts. -/
def State.argError (s : State) (n : Sector) : State := (s.setFlag (F.SEQ_XST_ARG n)).bump (F.SEQ_XST_XCNT n)

/-- lkr #k. -/
def sylLkr (n : Sector) (_d _a b : Fin 16) (s : State) : State :=
  if !s.hasUnit n b then s.noGrant n
  else if s.lockHeld b ∧ s.lockHolder b = n then s.freeLock b .release
  else if n ∈ s.locks[b].waiters then s.dropWait b n
  else s.argError n

def execLka (d a b : Fin 16) (s : State) : Host.Outcome State Fault Refusal := .next (issueAlone (fun n => sylLka n d a b) s)

def execLkr (d a b : Fin 16) (s : State) : Host.Outcome State Fault Refusal := .next (issueAlone (fun n => sylLkr n d a b) s)

/-- All locks in order. -/
def lockList : List (Fin 16) := [0, 1, 2, 3, 4, 5, 6, 7, 8, 9, 10, 11, 12, 13, 14, 15]

/-- A sector's locks are released in state ABANDONED and its waits withdrawn (05 R118 step 2). -/
def State.abandonLocks (s : State) (n : Sector) : State :=
  let s := lockList.foldl (fun s (k : Fin 16) => if n ∈ s.locks[k].waiters then s.dropWait k n else s) s
  lockList.foldl (fun s (k : Fin 16) => if s.holds n k then s.freeLock k .reset else s) s

/-- Revocation at an anchor or a frame boundary (05 R126): a lock held for LOCK_HOLDMAX × 32 ticks or more while another sector waits. The
requests to the log, made in one cycle, are in the order of the sectors (12 R281). -/
def State.revokeLocks (s : State) : State :=
  let lim := s.get F.LOCK_HOLDMAX_HOLDMAX
  sectors.foldl (fun s (n : Sector) => lockList.foldl (fun s (k : Fin 16) =>
    if s.holds n k ∧ lim ≠ 0 ∧ lim * 32 ≤ s.locks[k].hold ∧ s.locks[k].waiters ≠ [] then
      (s.log 1 n k 1 (s.get (F.LOCK_ST_HTIME k))).freeLock k .revoke
    else s) s) s

/-- One tick of hold time for every held lock. -/
def State.tickLocks (s : State) : State :=
  lockList.foldl (fun s (k : Fin 16) =>
    if s.lockHeld k then
      let h := s.locks[k].hold + 1
      (s.onLock k fun x => { x with hold := h }).put (F.LOCK_ST_HTIME k) (Nat.min (h / 32) 511)
    else s) s

/-- Locks of units no longer granted (05 R116): the holder loses the lock as by a reset, a waiter its wait. -/
def State.settleLockGrants (s : State) : State :=
  let s := lockList.foldl (fun s (k : Fin 16) => sectors.foldl (fun s n =>
    if n ∈ s.locks[k].waiters && !s.hasUnit n k then s.dropWait k n else s) s) s
  lockList.foldl (fun s (k : Fin 16) =>
    if s.lockHeld k && !s.hasUnit (s.lockHolder k) k then s.freeLock k .reset else s) s

end Sys2Proof.Machine
end

