-- ==== Sys2Proof/Machine/Net.lean ====
section
/-! DEFINITION. The field network port: the link, sends, the transmit queue, received frames, acknowledgements and sequence numbers
(15). -/

namespace Sys2Proof.Machine

/-! ## nsend (04 R108, 15 R360) -/

/-- A send with its word count out of range, or for want of a resource: pD 0. -/
def sylNsend (n : Sector) (d a b : Fin 16) (s : State) : State :=
  let x := s.secs[n]
  let nw := (x.rdW b).toNat
  let answer (s : State) (v : Bool) : State := s.addFlight ⟨n, 2, .p (predIx d) v, false⟩
  if !s.secs[n].grant2.getLsbD 2 then answer (s.noGrant n) false
  else if nw = 0 ∨ 480 < nw then answer (s.argError n) false
  else if !s.isOn .net || !s.txFree n nw then answer s false
  else
    let (k, s) := s.newFrame n (bit (bit3 d)) nw [] false (s.netDest n)
    let s := { s with eng := { s.eng with copies := s.eng.copies ++ [⟨n, true, x.rdW a, nw, k⟩] } }
    answer s true

def execNsend (d a b : Fin 16) (s : State) : Host.Outcome State Fault Refusal := .next (issueAlone (fun n => sylNsend n d a b) s)

/-- The EVENT frame of a line of sector n that rises, under the sector's share; none where no buffer is free (05 R122). -/
def State.lineFrame (s : State) (n : Sector) (k : Nat) : Option State :=
  if s.txFree n 3 then
    s.deviceFrame n 1 [BitVec.ofNat 18 k, BitVec.ofNat 18 (s.events n / 65536), BitVec.ofNat 18 (s.events n % 65536)] (s.netDest n)
  else none

/-- A sector's frames that have not begun transmission are freed, with their copies (05 R118 step 5, 04 R109). -/
def State.dropFrames (s : State) (n : Sector) : State :=
  let s := { s with eng := { s.eng with copies := s.eng.copies.filter fun c => decide (c.sec ≠ n) } }
  s.onNet fun m => { m with tx := m.tx.filter fun d => d.sending || decide (d.sec ≠ n) || decide (8 ≤ d.kind) }

/-! ## The link (15 R346, R347) -/

def State.linkState (s : State) : Nat := s.get F.NET_STAT_LINK

/-- The NET domain reaches ON: negotiation, or training in forced mode. -/
def State.linkStart (s : State) : State := s.put F.NET_STAT_LINK (if s.isSet F.NET_CTL_ANEN then 1 else 2)

/-- The link returns to DOWN; the frame on the wire is lost and its buffer freed. -/
def State.linkDrop (s : State) : State :=
  if s.linkState = 0 then s else
  ((s.put F.NET_STAT_LINK 0).bump F.NET_STAT_LDOWN).onNet fun m => { m with tx := m.tx.filter fun d => !d.sending }

/-- The PHY has lost lock for 2 ms. -/
def execLdown (s : State) : Host.Outcome State Fault Refusal := .next s.linkDrop

/-- Clause 98 negotiation is complete: training follows. -/
def execNegotiationComplete (s : State) : Host.Outcome State Fault Refusal :=
  .next (if s.isOn .net ∧ s.isSet F.NET_CTL_ANEN ∧ s.linkState ≤ 1 then s.put F.NET_STAT_LINK 2 else s)

/-- The link is UP, at 2.4 Vpp (`high`) and as master as negotiation or forced mode gives. -/
def execLinkUp (high master : Bool) (s : State) : Host.Outcome State Fault Refusal :=
  .next (
    if !s.isOn .net then s else
    let forced := !s.isSet F.NET_CTL_ANEN
    let amp := if forced then decide (s.get F.NET_CTL_AMP = 1 ∨ s.get F.NET_CTL_AMP = 2) else high
    let ms := if forced then s.isSet F.NET_CTL_FMS else master
    ((s.put F.NET_STAT_LINK 3).put F.NET_STAT_AMPA (bit amp)).put F.NET_STAT_MSA (bit ms))

/-! ## The transmit queue (15 R361) -/

/-- The frame at the head: device-generated frames first, then in order of entry. -/
def State.txHead (s : State) : Option TxDesc :=
  let q := s.net.tx.filter fun d => d.bytes.isSome && !d.sending
  match q.find? (·.dev) with
  | some d => some d
  | none => q.head?

/-- The frame at the head starts on the wire. -/
def execTransmitStart (s : State) : Host.Outcome State Fault Refusal :=
  .next (
    if s.linkState ≠ 3 ∨ s.net.tx.any (·.sending) then s else
    match s.txHead with
    | none => s
    | some h => s.onNet fun m => { m with tx := m.tx.map fun d => if d.id = h.id then { d with sending := true } else d })

/-- The frame has left the wire; its buffer is free. -/
def execTransmitDone (s : State) : Host.Outcome State Fault Refusal :=
  .next (s.onNet fun m => { m with tx := m.tx.filter fun d => !d.sending })

/-- Ticks a frame may wait in the queue; TXTO 0 acts as 1. -/
def State.txLimit (s : State) : Nat := 32 * Nat.max 1 (s.get F.NET_CTL_TXTO)

/-- A frame has waited out its time. -/
def TxDesc.late (d : TxDesc) (lim : Nat) : Bool := d.bytes.isSome && !d.sending && decide (lim ≤ d.wait)

/-- Frames that have waited TXTO × 32 ticks without starting are discarded, each counted. -/
def execTxto (s : State) : Host.Outcome State Fault Refusal :=
  .next (
    let lim := s.txLimit
    let k := (s.net.tx.filter fun d => d.late lim).length
    let s := s.onNet fun m => { m with tx := m.tx.filter fun d => !d.late lim }
    s.put F.NET_ERRC_TXTO (Nat.min (s.get F.NET_ERRC_TXTO + k) 7))

/-- One tick of waiting in the queue. -/
def State.tickFrames (s : State) : State :=
  s.onNet fun m => { m with tx := m.tx.map fun d => if d.bytes.isSome && !d.sending then { d with wait := d.wait + 1 } else d }

/-! ## Replay (15 R358) -/

/-- A command SEQ is fresh for sector n. -/
def State.fresh? (s : State) (n : Sector) (q : Nat) : Bool :=
  let h := s.net.rxHigh[n]
  decide (h < q) || (decide (h < q + 32) && !s.net.rxSeen[n].getLsbD (h - q))

/-- The window takes a delivered SEQ. -/
def State.advanceWindow (s : State) (n : Sector) (q : Nat) : State :=
  let h := s.net.rxHigh[n]
  let r := s.net.rxSeen[n]
  let r' := if h < q then (r <<< (q - h)) ||| 1 else r ||| (1#32 <<< (h - q))
  s.onNet fun m => { m with rxHigh := m.rxHigh.set n (Nat.max h q), rxSeen := m.rxSeen.set n r' }

/-! ## Acknowledgements and refusals (15 R367, R370, R371) -/

/-- Where the answer to a command goes. -/
def State.replyDest (s : State) (c : RxCmd) : NetDest :=
  if c.ip then ⟨s.gateway, s.vlanTag, some (c.src, c.port)⟩ else ⟨c.mac, s.vlanTag, none⟩

/-- SEQ[31:16] and SEQ[15:0] as words. -/
def seqWords (q : Nat) : List Word := [BitVec.ofNat 18 (q / 65536), BitVec.ofNat 18 (q % 65536)]

/-- An ACK, or ACKDROP. -/
def State.sendAck (s : State) (c : RxCmd) : State :=
  match s.deviceFrame c.sec 3 (seqWords c.seq) (s.replyDest c) with
  | some s => s
  | none => s.bump F.NET_ERRC_ACKDROP

/-- The source a NAK limit goes by. -/
def RxCmd.source (c : RxCmd) : List Byte := if c.ip then c.src else c.mac

/-- A source joins the four tracked, replacing its own record or the one whose NAK is oldest. -/
def trackNak (src : List Byte) (t : Nat) (l : List (List Byte × Nat)) : List (List Byte × Nat) :=
  let l := l.filter fun e => decide (e.1 ≠ src)
  (if l.length < 4 then l else l.tail) ++ [(src, t)]

/-- A NAK, at most one per source every 3277 ticks. -/
def State.sendNak (s : State) (c : RxCmd) (reason : Nat) : State :=
  match s.net.naks.find? fun e => decide (e.1 = c.source ∧ ticksFrom e.2 s.tick < 3277) with
  | some _ => s.bump F.NET_ERRC_NAKSUP
  | none =>
    match s.deviceFrame c.sec 4 (seqWords c.seq ++ [BitVec.ofNat 18 reason]) (s.replyDest c) with
    | some s' => s'.onNet fun m => { m with naks := trackNak c.source s.tick m.naks }
    | none => s.bump F.NET_ERRC_ACKDROP

/-- A network violation: NVIO in the sector, and a log entry for the first of its code in the frame. -/
def State.netViolation (s : State) (n : Sector) (ip : Bool) (code seq : Nat) : State :=
  let s := s.raise n 19
  if code ∈ s.net.logged then s
  else (s.log 4 n (bit ip) code seq).onNet fun m => { m with logged := code :: m.logged }

/-! ## Received frames (15 R352, R364, R369) -/

/-- A byte, 0 past the end. -/
def byteAt (l : List Byte) (k : Nat) : Nat := (l.getD k 0).toNat

def be16At (l : List Byte) (k : Nat) : Nat := byteAt l k * 256 + byteAt l (k + 1)

/-- A frame taken apart after the FCS: addresses, the one tag, EtherType, body. -/
structure EthFrame where
  dst : List Byte
  src : List Byte
  tci : Option Nat
  etype : Nat
  body : List Byte
  deriving DecidableEq, Repr

def splitFrame (f : List Byte) : EthFrame :=
  if be16At f 12 = 0x8100 then ⟨f.take 6, (f.drop 6).take 6, some (be16At f 14), be16At f 16, f.drop 18⟩
  else ⟨f.take 6, (f.drop 6).take 6, none, be16At f 12, f.drop 14⟩

/-- An ARP request for the own address. -/
def State.arpForUs (s : State) (e : EthFrame) : Bool :=
  decide (e.etype = 0x0806) && decide (be16At e.body 0 = 1 ∧ be16At e.body 2 = 0x0800 ∧ byteAt e.body 4 = 6 ∧ byteAt e.body 5 = 4 ∧
    be16At e.body 6 = 1 ∧ 28 ≤ e.body.length) && decide ((e.body.drop 24).take 4 = s.ownIp)

/-- A reply that is no Yardo frame joins the transmit queue as a device-generated frame; it takes no SEQ. -/
def State.plainReply (s : State) (b : List Byte) : State :=
  if s.txRoom (blocksFor b.length) then
    s.onNet fun m =>
      { m with nextId := m.nextId + 1
               tx := m.tx ++ [⟨m.nextId, 0, 8, 0, [], true, false, true, 0, ⟨[], none, none⟩, blocksFor b.length, some b, 0⟩] }
  else s

/-- The unicast ARP reply; it carries no tag (15 R369). -/
def State.arpReply (s : State) (e : EthFrame) : State :=
  let sha := (e.body.drop 8).take 6
  let spa := (e.body.drop 14).take 4
  s.plainReply (s.ether sha none 0x0806 ([0, 1, 8, 0, 6, 4, 0, 2] ++ s.mac ++ s.ownIp ++ sha ++ spa))

/-- IHL 5, no fragment, checksum correct, to the own address, and whole. -/
def State.ipOk (s : State) (b : List Byte) : Bool :=
  decide (byteAt b 0 = 0x45 ∧ be16At b 6 % 0x4000 = 0 ∧ 20 ≤ be16At b 2 ∧ be16At b 2 ≤ b.length) &&
    decide (checksum (b.take 20) = 0) && decide ((b.drop 16).take 4 = s.ownIp)

/-- The payload of an IPv4 packet. -/
def ipPayload (b : List Byte) : List Byte := (b.take (be16At b 2)).drop 20

/-- The UDP packet is for the own port with its checksum 0 or correct. -/
def State.udpOk (s : State) (b : List Byte) : Bool :=
  let u := ipPayload b
  let pseudo := (b.drop 12).take 8 ++ [0, 17] ++ beBytes 2 (be16At u 4)
  decide (byteAt b 9 = 17 ∧ 8 ≤ u.length ∧ be16At u 2 = s.get F.NET_UPORT_PORT ∧ 8 ≤ be16At u 4 ∧ be16At u 4 ≤ u.length) &&
    (decide (be16At u 6 = 0) || decide (checksum (pseudo ++ u.take (be16At u 4)) = 0))

/-- The data of the UDP packet and the source port. -/
def udpData (b : List Byte) : List Byte × List Byte :=
  let u := ipPayload b
  (((u.take (be16At u 4)).drop 8), u.take 2)

/-- An ICMP echo request of at most 1472 data bytes, its checksum correct. -/
def icmpEcho (b : List Byte) : Bool :=
  let i := ipPayload b
  decide (byteAt b 9 = 1 ∧ 8 ≤ i.length ∧ i.length ≤ 1480 ∧ byteAt i 0 = 8 ∧ byteAt i 1 = 0) && decide (checksum i = 0)

/-- The echo reply with the same data; it carries no tag (15 R369). -/
def State.icmpReply (s : State) (e : EthFrame) : State :=
  let i := ipPayload e.body
  let rest := i.drop 4
  let icmp := [0, 0] ++ beBytes 2 (checksum ([0, 0, 0, 0] ++ rest)) ++ rest
  let h := s.ipHeader 1 icmp.length s.net.ident ((e.body.drop 12).take 4)
  (s.onNet fun m => { m with ident := (m.ident + 1) % 65536 }).plainReply (s.ether s.gateway none 0x0800 (h ++ icmp))

/-- The ring of sector n lies wholly in its window. -/
def State.ringInWindow (s : State) (n : Sector) : Bool :=
  decide (s.get (F.NET_RXBASE_BASE n) + 256 ≤ 1024 * s.get (F.SEC_WIN_GLEN n))

/-- Steps 6 to 12 of Table NET-4 on the Yardo bytes of a frame of `len` bytes without FCS. -/
def State.receiveYardo (s : State) (e : EthFrame) (ip : Bool) (y src port : List Byte) (len : Nat) : State :=
  let ksd := byteAt y 1
  let n : Sector := ⟨ksd / 8 % 4, by omega⟩
  let nw := be16At y 2
  let q := beNat ((y.drop 4).take 4)
  let c : RxCmd := ⟨n, q, bytesWords ((y.drop 8).take (3 * nw)), e.tci.isSome, ip, e.tci.getD 0, e.src, src, port, blocksFor len, 0, 0⟩
  if byteAt y 0 ≠ 1 ∨ ksd / 32 ≠ 2 ∨ ksd / 4 % 2 = 1 ∨ ksd % 4 ≠ 0 then (s.bump F.NET_ERRB_HDRE).netViolation n ip 3 q
  else if nw = 0 ∨ 60 < nw ∨ y.length < 16 + 3 * nw then (s.bump F.NET_ERRB_HDRE).netViolation n ip 5 q
  else if s.seqLost n || s.keyMissing n then s.bump F.NET_ERRC_KEYX
  else if s.tagged n && decide ((y.drop (8 + 3 * nw)).take 8 ≠ s.netTag n (y.take (8 + 3 * nw))) then
    (s.bump F.NET_ERRB_TAGE).netViolation n ip 1 q
  else if !s.fresh? n q then (s.bump F.NET_ERRB_RPLE).netViolation n ip 2 q
  else if !s.running n then (s.sendNak c 1).netViolation n ip 4 q
  else if !s.secs[n].grant2.getLsbD 2 || !s.ringInWindow n then (s.sendNak c 2).netViolation n ip 4 q
  else s.onNet fun m => { m with rx := m.rx ++ [c] }

/-- A frame as it arrived, FCS included, through the checks of Table NET-4. The port hears nothing unless the link is UP. -/
def State.receiveFrame (s : State) (f : List Byte) : State :=
  if s.linkState ≠ 3 then s
  else if 8 ≤ s.net.rx.length ∨ 64 < (s.net.rx.map (·.blocks)).sum + 12 then s.bump F.NET_ERRC_RXDROP
  else
    let b := f.take (f.length - 4)
    let e := splitFrame b
    let ipen := s.isSet F.NET_CTL_IPEN
    if f.drop (f.length - 4) ≠ (beBytes 4 (crc32 b).toNat).reverse then s.bump F.NET_ERRA_FCSE
    else if f.length < 64 ∨ 1522 < f.length ∨ (1518 < f.length ∧ e.tci = none) then s.bump F.NET_ERRA_LENE
    else if e.dst ≠ s.mac ∧ ¬ (e.dst = List.replicate 6 0xFF ∧ e.etype = 0x0806 ∧ be16At e.body 6 = 1 ∧ ipen) then s
    else if e.etype = s.get F.NET_ETYPE_ETYPE then s.receiveYardo e false e.body [] [] b.length
    else if !ipen ∨ (e.etype ≠ 0x0800 ∧ e.etype ≠ 0x0806) then s.bump F.NET_ERRA_TYPE
    else if e.etype = 0x0806 then (if s.arpForUs e then s.arpReply e else s)
    else if !s.ipOk e.body then s
    else if s.udpOk e.body then
      let d := udpData e.body
      s.receiveYardo e true d.1 ((e.body.drop 12).take 4) d.2 b.length
    else if icmpEcho e.body then s.icmpReply e else s

/-- A frame arrives. -/
def execNetFrameReceived (f : List Byte) (s : State) : Host.Outcome State Fault Refusal := .next ((s.touch 2).receiveFrame f)

/-- A frame with an ARP request arrives. -/
def execArpRequest (f : List Byte) (s : State) : Host.Outcome State Fault Refusal := .next ((s.touch 2).receiveFrame f)

/-- A frame with an ICMP echo request arrives. -/
def execIcmpEchoRequest (f : List Byte) (s : State) : Host.Outcome State Fault Refusal := .next ((s.touch 2).receiveFrame f)

/-! ## Delivery (15 R365, R366) -/

/-- Words into the ring; one outside the window or in a bank that is not ON is dropped. -/
def State.ringStore (s : State) (n : Sector) (ea : Nat) : List Word → State
  | [] => s
  | v :: l => (match s.inWindow n ea with | some p => s.writeHamper p v | none => s).ringStore n (ea + 1) l

/-- The words of a ring entry (15 R365). -/
def RxCmd.entry (c : RxCmd) : List Word :=
  [BitVec.ofNat 18 (bit c.tagged * 2 ^ 17 + bit c.ip * 2 ^ 16 + c.words.length)] ++ seqWords c.seq ++ [BitVec.ofNat 18 c.tci] ++ c.words

/-- Bytes of the entry still to be copied. -/
def RxCmd.left (c : RxCmd) : Nat := 3 * (4 + c.words.length) - c.done

/-- Window offset of the ring entry that sector n's next command takes (15 R365). -/
def State.rxEntry (s : State) (n : Sector) : Nat :=
  s.get (F.NET_RXBASE_BASE n) + 64 * ((s.get (F.NET_RX_HEAD n) + s.get (F.NET_RX_CNT n)) % 4)

/-- Cycles of a booking that copies `k` bytes (02 Table CON-7). -/
def netrxCycles (k : Nat) : Nat := 16 + (k + 1) / 2

/-- The bytes a booking copies in `room` cycles: all that is left, or whole parts of 64 bytes (02 R42). -/
def RxCmd.part (c : RxCmd) (room : Nat) : Nat :=
  if netrxCycles c.left ≤ room then c.left else 64 * ((room - 16) / 32)

/-- A booking copies `k` bytes of a command into the ring: the first checks the window and the ring again, the last delivers. -/
def State.deliverPart (s : State) (c : RxCmd) (rest : List RxCmd) (k : Nat) : State :=
  let n := c.sec
  let s := s.onNet fun m => { m with rx := rest }
  if c.done = 0 ∧ !s.fresh? n c.seq then s.bump F.NET_ERRB_RPLE
  else if c.done = 0 ∧ 4 ≤ s.get (F.NET_RX_CNT n) then
    ((s.sendNak c 3).bump (F.NET_RX_DROP n)).netViolation n c.ip 4 c.seq
  else
    let first := c.done / 3
    let ws := (c.entry.take ((c.done + k) / 3)).drop first
    let s := s.ringStore n (s.rxEntry n + first) ws
    if k < c.left then s.onNet fun m => { m with rx := { c with done := c.done + k } :: m.rx }
    else (((s.bump (F.NET_RX_CNT n)).advanceWindow n c.seq).raise n 18).sendAck c

/-- The oldest command of sector n and the bytes of it that a booking of at most `room` cycles copies, where a part of it fits; a ring entry
in a bank that is not ON waits for its floor (06 Table PWR-5). -/
def State.netrxWork (s : State) (n : Sector) (room : Nat) : Option (RxCmd × Nat) :=
  match s.net.rx.find? fun c => decide (c.sec = n) with
  | none => none
  | some c => if 0 < c.part room ∧ s.banksOn (s.physOf n (s.rxEntry n)) 64 then some (c, c.part room) else none

/-- A NETRX booking copies as much as fits of the oldest command of the sector chosen. -/
def execNetrxBooking (s : State) : Host.Outcome State Fault Refusal :=
  let room := s.slotRoom 2
  match s.pickSector fun n => (s.netrxWork n room).isSome with
  | none => .next s
  | some n =>
    match s.netrxWork n room, takeFirst (fun c => decide (c.sec = n)) s.net.rx with
    | some (_, k), some (c, rest) => .next ((s.deliverPart c rest k).book n (netrxCycles k))
    | _, _ => .next s

/-- POP: the oldest ring entry is released. -/
def State.popRing (s : State) (n : Sector) : State :=
  if s.get (F.NET_RX_CNT n) = 0 then s
  else (s.put (F.NET_RX_HEAD n) ((s.get (F.NET_RX_HEAD n) + 1) % 4)).put (F.NET_RX_CNT n) (s.get (F.NET_RX_CNT n) - 1)

/-- The waiting commands of a sector that satisfy `p` are discarded with NAK reason 4. -/
def State.staleCommands (s : State) (p : RxCmd → Bool) : State :=
  let gone := s.net.rx.filter p
  let s := s.onNet fun m => { m with rx := m.rx.filter fun c => !p c }
  gone.foldl (fun s c => (s.sendNak c 4).bump F.NET_ERRC_RXSTALE) s

/-- A frame boundary that marks sector n running: its waiting commands age, and those at their second boundary are discarded. -/
def State.ageCommands (s : State) (n : Sector) : State :=
  let s := s.onNet fun m => { m with rx := m.rx.map fun c => if c.sec = n then { c with age := c.age + 1 } else c }
  s.staleCommands fun c => decide (c.sec = n ∧ 2 ≤ c.age)

/-! ## Restoring sequence numbers (15 R359) -/

/-- SEQLOSTn clears once both halves have been restored. -/
def State.settleSeqLost (s : State) (n : Sector) : State :=
  if s.net.txRestored[n] && s.net.rxRestored[n] then s.put ⟨A.NET_STAT, 10 + n, 10 + n⟩ 0 else s

/-- NET_TXSEQHn or NET_RXSEQHn committed: staged. -/
def State.stageSeq (s : State) (n : Sector) (rx : Bool) (v : Nat) : State :=
  s.onNet fun m => if rx then { m with rxStage := m.rxStage.set n (some (v % 65536)) } else { m with txStage := m.txStage.set n (some (v % 65536)) }

/-- NET_TXSEQLn or NET_RXSEQLn committed: both halves take effect. -/
def State.commitSeq (s : State) (n : Sector) (rx : Bool) (v : Nat) : State :=
  let s := if rx then
      let h := s.net.rxStage[n].getD (s.net.rxHigh[n] / 65536)
      s.onNet fun m => { m with rxHigh := m.rxHigh.set n (h * 65536 + v % 65536), rxSeen := m.rxSeen.set n (BitVec.allOnes 32),
                                rxStage := m.rxStage.set n none, rxRestored := m.rxRestored.set n true }
    else
      let h := s.net.txStage[n].getD (Nat.min s.net.txSeq[n] (2 ^ 32 - 1) / 65536)
      s.onNet fun m => { m with txSeq := m.txSeq.set n (h * 65536 + v % 65536), txStage := m.txStage.set n none,
                                txRestored := m.txRestored.set n true }
  s.settleSeqLost n

/-- An L write of a sequence register commits. -/
def execSeqRestoreCommit (n : Sector) (rx : Bool) (v : Word) (s : State) : Host.Outcome State Fault Refusal :=
  .next (s.commitSeq n rx v.toNat)

/-- Telemetry at a frame boundary (15 R363). -/
def State.telemBoundary (s : State) : State :=
  if !s.isSet F.NET_TELEM_TEN then s else
  let k := s.net.telCount + 1
  if k < Nat.max 1 (s.get F.NET_TELEM_TPER) then s.onNet fun m => { m with telCount := k }
  else
    let s := if s.net.telReq then s.bump F.NET_TELEM_TDROP else s
    s.onNet fun m => { m with telCount := 0, telReq := true }

/-- POR and BOR: counters and windows clear and SEQLOST sets (15 R359). -/
def State.seqClear (s : State) : State :=
  (s.onNet fun m => { m with txSeq := Vector.replicate 4 0, rxHigh := Vector.replicate 4 0, rxSeen := Vector.replicate 4 0,
                             txStage := Vector.replicate 4 none, rxStage := Vector.replicate 4 none,
                             txRestored := Vector.replicate 4 false, rxRestored := Vector.replicate 4 false }).setFlag F.NET_STAT_SEQLOST

end Sys2Proof.Machine
end

