-- ==== Sys2Proof/Machine/Tangent.lean ====
section
/-! DEFINITION. The Tangent link and twin operation: turns, go-back-N, training, roles, the claim line, heartbeats, mirroring, Shadow
records and messages (14). -/

namespace Sys2Proof.Machine

def State.onTw (s : State) (f : Tangent → Tangent) : State := { s with tw := f s.tw }

def State.role (s : State) : Nat := s.get F.TW_STAT_ROLE

def State.linkUp (s : State) : Bool := s.isSet F.TW_STAT_LINK

/-- EN = 1 and the partner is present. -/
def State.twinOn (s : State) : Bool := s.isSet F.TW_CTL_EN && s.isSet F.TW_STAT_PRES

/-- The own incarnation: Thermos word 018h (14 R329). -/
def State.incarnation (s : State) : Word := s.thermosWord 0x18

/-! ## Violations (14 R342) -/

/-- A violation's log entry, the first of its code in the frame. -/
def State.twLog (s : State) (sec idx code detail : Nat) : State :=
  if code ∈ s.tw.logged then s
  else (s.log 3 sec idx code detail).onTw fun t => { t with logged := code :: t.logged }

/-- A violation tied to a frame with header bytes h0, h1. -/
def State.twLogFrame (s : State) (h0 h1 : Byte) (code : Nat) : State :=
  s.twLog (h0.toNat / 4 % 4) (h0.toNat / 16) code (h0.toNat * 256 + h1.toNat)

def LinkFrame.head0 (f : LinkFrame) : Byte := BitVec.ofNat 8 (16 * f.type + 4 * f.sect.val)

def LinkFrame.head1 (f : LinkFrame) (ack : Nat) : Byte := BitVec.ofNat 8 (32 * f.seq + 4 * ack)

def State.twLogOf (s : State) (f : LinkFrame) (ack code : Nat) : State := s.twLogFrame f.head0 (f.head1 ack) code

/-- A link frame as bytes, SOF and EOF left out (14 Table TWN-1). -/
def LinkFrame.bytes (f : LinkFrame) (ack : Nat) : List Byte :=
  let b := [f.head0, f.head1 ack, BitVec.ofNat 8 f.words.length] ++ (f.words.map wordBytes).flatten
  b ++ beBytes 2 (crcMsb (0x1021 : BitVec 16) 0xFFFF b).toNat

/-! ## Link DOWN and training (14 R325, R331, R332) -/

/-- Messages lost when the link goes down: those queued and those sent but not acknowledged. -/
def State.twLost (s : State) : Nat := s.tw.msgs.length + (s.tw.outst.filter fun f => decide (f.type = 2)).length

/-- Ticks of the retry timer; RETRY 0 acts as 1. -/
def State.retryTicks (s : State) : Nat := 3277 * Nat.max 1 (s.get F.TW_CFG_RETRY)

/-- The link goes DOWN: every frame queued or unacknowledged is discarded, the mirror pass abandoned, and the retry timer starts. -/
def State.linkDown (s : State) (cause : Nat) : State :=
  if !s.linkUp then s else
  let lost := s.twLost
  let s := { s with eng := { s.eng with copies := s.eng.copies.filter (·.toNet) } }
  let s := (s.put F.TW_STAT_LINK 0).bump (F.TW_RX_DOWNC 0)
  let s := s.put F.TW_ERRB_TXLOST (Nat.min (s.get F.TW_ERRB_TXLOST + lost) 7)
  let s := s.onTw fun t =>
    { t with msgs := [], outst := [], ready := [], shdOut := [], hbDue := false, pass := none, resend := false, stalled := 0,
             owesAck := false, retry := some s.retryTicks, hbWords := [] }
  s.twLog 0 0 0xB cause

/-- Training starts. -/
def State.startTraining (s : State) : State :=
  let s := s.linkDown 3
  ((s.onTw fun t => { t with trainAge := 0, gotTrain := false, gotAck := false, sendTrain := true, retry := none, chosen := false,
                             yield := false }).setFlag F.TW_STAT_TRN).put F.TW_MSYNC_FULL 0

/-- The role follows EN, PRES and CLMOWN: SOLO without them, the claim kept and a yield in progress given up; SEEKING from SOLO without the
claim (14 Table TWN-4). -/
def State.settleRole (s : State) : State :=
  if !s.twinOn then
    if s.role = 0 then s
    else ((s.onTw fun t => { t with chosen := false, retry := none, yield := false, yielding := false, dropClaim := false }).put
      F.TW_STAT_TRN 0).setRole 0
  else if s.role = 0 ∧ !s.isSet F.TW_STAT_CLMOWN then (s.setRole 1).startTraining
  else s

/-- This device is chosen PRIMARY (14 R331 rules 1, 3, 4; rule 2 keeps both PRIMARY). -/
def State.choosesSelf (s : State) : Bool :=
  let own := s.isSet F.TW_STAT_CLMOWN
  let p := s.tw.partner
  if own then true else if p.own then false
  else
    let pref := s.isSet F.TW_CTL_PREF
    if pref && !p.pref then true else if !pref && p.pref then false else decide (s.serial < p.serial)

/-- Training completes: the link is UP, numbering restarts, and the roles are chosen. -/
def State.completeTraining (s : State) : State :=
  let s := (s.put F.TW_STAT_TRN 0).setFlag F.TW_STAT_LINK
  let s := s.onTw fun t => { t with nextSeq := 0, expect := 0, outst := [], stalled := 0, resend := false, hbAge := 0, retry := none }
  let s := (s.put F.TW_PINC_PINC s.tw.partner.inc.toNat).put F.TW_STAT_MISSCNT 0
  let s := if s.tw.partner.period ≠ s.get F.SCH_FRAME_PERIOD then s.setFlag F.TW_STAT_PERX else s
  if s.choosesSelf then
    if s.isSet F.TW_STAT_CLMOWN then s.setRole 3 else s.onTw fun t => { t with chosen := true }
  else s.setRole 2

/-- A partner's TRAIN payload (14 Table TWN-3). -/
def partnerOf : List Word → Option (Partner × Bool)
  | [w0, w1, w2, w3, w4, w5] =>
    some (⟨w0, w1.getLsbD 15, w1.getLsbD 14, w2.toNat % 65536 * 2 ^ 32 + w3.toNat % 65536 * 65536 + w4.toNat % 65536, w5.toNat⟩,
      w1.getLsbD 13)
  | _ => none

/-- A TRAIN frame: it is answered with ACKT = 1, while the link is UP too; while it is not UP it starts training, and it may complete it. -/
def State.trainReceived (s : State) (ws : List Word) : State :=
  let s := s.touch 1
  if !s.isOn .twin || !s.twinOn then s else
  match partnerOf ws with
  | none => (s.bump F.TW_ERRB_TYPX).twLogFrame 0x50 0 3
  | some (p, ackt) =>
    if s.linkUp then s.onTw fun t => { t with gotTrain := true, sendTrain := true } else
    let s := if s.isSet F.TW_STAT_TRN then s else s.startTraining
    let s := s.onTw fun t => { t with gotTrain := true, gotAck := t.gotAck || ackt, sendTrain := true, partner := p }
    if s.tw.gotAck then s.completeTraining else s

def execTrainReceived (ws : List Word) (s : State) : Host.Outcome State Fault Refusal := .next (s.trainReceived ws)

/-- Four ticks have passed in training. -/
def execTrainResend (s : State) : Host.Outcome State Fault Refusal :=
  .next (if s.isSet F.TW_STAT_TRN then s.onTw fun t => { t with sendTrain := true } else s)

/-- Training is not complete after 32 ticks: it fails, and the retry timer starts. -/
def execTrainingTimeout (s : State) : Host.Outcome State Fault Refusal :=
  .next (
    if s.isSet F.TW_STAT_TRN ∧ 32 ≤ s.tw.trainAge then
      (s.onTw fun t => { t with sendTrain := false, retry := some s.retryTicks }).put F.TW_STAT_TRN 0
    else s)

def execRetryTimerExpiry (s : State) : Host.Outcome State Fault Refusal :=
  .next (
    if s.tw.retry = some 0 then
      let s := s.onTw fun t => { t with retry := none }
      if s.twinOn then s.startTraining else s
    else s)

/-- RETRAIN. -/
def State.retrain (s : State) : State := if s.twinOn then s.startTraining else s

/-- TWPRS has held a new level for two samples: PRES changes (14 R326, R332). -/
def execPresenceChange (s : State) : Host.Outcome State Fault Refusal :=
  .next (
    if s.isSet F.TW_STAT_PRES then (s.put F.TW_STAT_PRES 0).settleRole
    else
      let s := (s.setFlag F.TW_STAT_PRES).onTw fun t => { t with retry := none }
      if !s.twinOn then s
      else if s.role = 0 ∧ !s.isSet F.TW_STAT_CLMOWN then s.settleRole else s.startTraining)

/-! ## The claim line (14 R327, R328) -/

/-- A device may claim: SOLO without the claim, chosen by training or by the heartbeats' end, or STANDBY with the link UP. -/
def State.mayClaim (s : State) : Bool :=
  !s.isSet F.TW_STAT_CLMOWN && !s.tw.dropClaim && decide (s.tw.claimWait = 0) &&
    (decide (s.role = 0) || s.tw.chosen || (decide (s.role = 2) && s.linkUp))

/-- Edges at which TWCLM must read high before it is asserted: 2, and D = serial[2:0] more. -/
def State.claimEdges (s : State) : Nat := 2 + s.serial % 8

/-- A claim is attempted: `high` is TWCLM as it reads at each edge from the first on. A low reading ends the attempt, and with VDDIO absent
there is none; at the last of 2 + D high readings the device asserts TWCLM, and unless it is SOLO it becomes PRIMARY. -/
def execClaimAttempt (s : State) (high : List Bool := []) : Host.Outcome State Fault Refusal :=
  .next (
    let reads := high.take s.claimEdges
    let low := !reads.all id
    if !s.mayClaim ∨ low ∨ reads.length < s.claimEdges ∨ !s.pins.vddio then s.onTw fun t => { t with extLow := low } else
    let r := s.role
    let s := s.onTw fun t => { t with extLow := false, claimAge := 0, claimOk := false, prevRole := r, chosen := false, dropClaim := false }
    let s := s.setFlag F.TW_STAT_CLMOWN
    if r = 0 then s else s.setRole 3)

/-- A probe takes place: at the first edge after the assertion and every 32 ticks from there. -/
def State.probeDue (s : State) : Bool := s.isSet F.TW_STAT_CLMOWN && decide (s.tw.claimAge % 32 = 1)

/-- The claimant releases TWCLM for 4 µs and samples it. -/
def execClaimProbe (low : Bool) (s : State) : Host.Outcome State Fault Refusal :=
  .next (
    if !s.probeDue then s else
    let s := s.onTw fun t => { t with extLow := low }
    if !low then s.onTw fun t => { t with claimOk := true }
    else
      let first := !s.tw.claimOk
      let s := (s.setFlag F.TW_STAT_CLMCOL).twLog 0 0 9 (bit (!first))
      if !first then s else
      let prev := s.tw.prevRole
      let s := s.releaseShared.put F.TW_STAT_CLMOWN 0
      let s := s.onTw fun t => { t with claimAge := 0, dropClaim := false, claimWait := 8 + s.serial % 64, chosen := decide (prev = 1) }
      (s.setRole prev).settleRole)

/-- YIELD, by a PRIMARY with the link UP (14 R335). -/
def State.yieldClaim (s : State) : State :=
  if s.role = 3 ∧ s.linkUp then s.onTw fun t => { t with yield := true } else s

/-! ## Heartbeats (14 R333, R334) -/

/-- The line states a heartbeat carries: lines routed to the partner. -/
def State.heartbeatLines (s : State) : Nat :=
  (List.range 16).foldl (fun v j =>
    if s.isSet (F.SEC_VRT_ACT (j / 4) (j % 4)) ∧ s.isSet (F.SEC_VRT_TWIN (j / 4) (j % 4)) then v + 2 ^ j else v) 0

/-- The payload of a heartbeat. -/
def State.heartbeat (s : State) : List Word :=
  let w1 := s.role * 2 ^ 16 + s.get F.TW_STAT_CLMOWN * 2 ^ 15 + bit s.tw.yield * 2 ^ 14 + s.get F.TW_MSYNC_FULL * 2 ^ 13 +
    s.get F.LDG_STAT_L * 2 ^ 11 + s.get F.THERM_STAT_LEVEL * 2 ^ 9
  let w5 := (List.range 4).foldl (fun v j => v + Nat.min (s.tw.mismatch.toList.getD j 0) 15 * 16 ^ j) 0
  [s.incarnation, BitVec.ofNat 18 w1, BitVec.ofNat 18 s.heartbeatLines, BitVec.ofNat 18 s.sch.frameStart,
   s.word A.SCH_FRAME, BitVec.ofNat 18 w5]

/-- The boundary prologue queues a heartbeat. -/
def State.queueHeartbeat (s : State) : State := if 2 ≤ s.role then s.onTw fun t => { t with hbDue := true } else s

/-- Ticks of a heartbeat window: HBWIN, or from the partner's PERIOD. -/
def State.hbWindow (s : State) : Nat :=
  let w := s.get F.TW_HBWIN_HBWIN
  if w = 0 then s.tw.partner.period + s.tw.partner.period / 8 else w

/-- A window of HBWIN ticks has passed without a valid heartbeat; `low` is TWCLM as it reads. -/
def execHeartbeatMiss (low : Bool) (s : State) : Host.Outcome State Fault Refusal :=
  .next (
    if !s.linkUp ∨ s.tw.hbAge < s.hbWindow then s else
    let s := (s.onTw fun t => { t with hbAge := 0, extLow := low && !s.isSet F.TW_STAT_CLMOWN }).bump F.TW_STAT_MISSCNT
    if s.get F.TW_STAT_MISSCNT < Nat.max 1 (s.get F.TW_CFG_MISS) then s else
    let s := s.linkDown 2
    if s.role ≠ 2 then s
    else if low then (s.setFlag F.TW_STAT_SPLIT).twLog 0 0 0xA (s.get F.TW_STAT_MISSCNT)
    else s.onTw fun t => { t with chosen := true })

/-! ## Acknowledgement (14 R324) -/

/-- The cumulative acknowledgement a frame carries. -/
def State.takeAck (s : State) (ack : BitVec 3) : State :=
  match s.tw.outst with
  | [] => s
  | f :: _ =>
    let k := (ack.toNat + 8 - f.seq) % 8
    if k = 0 ∨ s.tw.outst.length < k then s
    else s.onTw fun t => { t with outst := t.outst.drop k, stalled := 0, resend := false }

def execAckReceived (ack : BitVec 3) (s : State) : Host.Outcome State Fault Refusal :=
  .next (if s.isOn .twin ∧ s.linkUp then s.takeAck ack else s)

/-- No acknowledgement: outstanding frames go again, or the link is DOWN after 16 such turns (14 R325). -/
def execRtx (s : State) : Host.Outcome State Fault Refusal :=
  .next (
    if !s.linkUp ∨ s.tw.outst.isEmpty then s
    else if 16 ≤ s.tw.stalled then s.linkDown 1
    else (s.onTw fun t => { t with resend := true }).bump F.TW_ERRA_RTX)

/-- A sequenced frame meets the expected SEQ and, where it needs one, a free buffer: `act` is what it does. Any other is discarded and
acknowledged again. -/
def State.acceptFrame (s : State) (f : LinkFrame) (ack : BitVec 3) (lenOk space : Bool) (act : State → State) : State :=
  let s := s.touch 1
  if !s.isOn .twin || !s.linkUp then s
  else if !lenOk then (s.bump F.TW_ERRB_TYPX).twLogOf f ack.toNat 3
  else
    let s := s.takeAck ack
    let s := s.onTw fun t => { t with owesAck := true }
    if f.seq ≠ s.tw.expect then s.bump F.TW_ERRA_OOS
    else if !space then s
    else act (s.onTw fun t => { t with expect := (t.expect + 1) % 8 })

/-- A heartbeat. -/
def State.hbAct (f : LinkFrame) (ack : Nat) (s : State) : State :=
  let w (k : Nat) : Word := f.words.getD k 0
  let s := (s.onTw fun t => { t with hbAge := 0, partner := { t.partner with period := (w 4).toNat } }).put F.TW_STAT_MISSCNT 0
  let s := s.put F.TW_PVL_PVL (w 2).toNat
  if (w 0).toNat ≠ s.get F.TW_PINC_PINC then (s.twLogOf f ack 8).startTraining else s

def execHbReceived (h : LinkHead) (ws : List Word) (s : State) : Host.Outcome State Fault Refusal :=
  let f : LinkFrame := ⟨1, h.sect, h.seq.toNat, ws⟩
  .next (s.acceptFrame f h.ack (decide (ws.length = 6)) true (State.hbAct f h.ack.toNat))

/-- The frame waits for its copy. -/
def State.bufferFrame (s : State) (w : LinkWait) : State := s.onTw fun t => { t with buf := t.buf ++ [w] }

/-! ## Messages (14 R336, R341) -/

/-- The message ring of sector n lies in its window. -/
def State.msgRingInWindow (s : State) (n : Sector) : Bool :=
  decide (s.get (F.TW_RXBASE_BASE n) + 132 ≤ 1024 * s.get (F.SEC_WIN_GLEN n))

/-- The ring takes a message. -/
def State.msgFits (s : State) (n : Sector) : Bool :=
  decide (s.get (F.TW_RX_CNT n) < 4) && s.secs[n].grant2.getLsbD 3 && s.msgRingInWindow n

def execMsgReceived (h : LinkHead) (ws : List Word) (s : State) : Host.Outcome State Fault Refusal :=
  let f : LinkFrame := ⟨2, h.sect, h.seq.toNat, ws⟩
  .next (s.acceptFrame f h.ack (decide (1 ≤ ws.length ∧ ws.length ≤ 32))
    (decide (s.tw.buf.length < 4) || !s.running h.sect || !s.msgFits h.sect) fun s =>
    if !s.running h.sect then s
    else if !s.msgFits h.sect then s.bump (F.TW_RX_DROP h.sect)
    else s.bufferFrame ⟨f, h.ack.toNat, 0, 0, 0⟩)

/-- Window offset of the ring entry that sector n's next message takes. -/
def State.msgEntry (s : State) (n : Sector) : Nat :=
  s.get (F.TW_RXBASE_BASE n) + 33 * ((s.get (F.TW_RX_HEAD n) + s.get (F.TW_RX_CNT n)) % 4)

/-- The words of a message's ring entry. -/
def LinkFrame.entry (f : LinkFrame) : List Word := BitVec.ofNat 18 f.words.length :: f.words

/-- `k` words of a buffered message are copied into the ring; with the last the entry is the sector's. One the ring no longer takes is
dropped. -/
def State.storeMsg (s : State) (w : LinkWait) (k : Nat) : State :=
  let n := w.frame.sect
  let l := w.frame.entry
  if !s.msgFits n then s.bump (F.TW_RX_DROP n) else
  let s := s.ringStore n (s.msgEntry n + w.done) ((l.drop w.done).take k)
  if w.done + k < l.length then s.onTw fun t => { t with buf := { w with done := w.done + k } :: t.buf }
  else (s.bump (F.TW_RX_CNT n)).raise n 22

/-- POP: the oldest message entry is released. -/
def State.popMsg (s : State) (n : Sector) : State :=
  if s.get (F.TW_RX_CNT n) = 0 then s
  else (s.put (F.TW_RX_HEAD n) ((s.get (F.TW_RX_HEAD n) + 1) % 4)).put (F.TW_RX_CNT n) (s.get (F.TW_RX_CNT n) - 1)

/-- tsend (04 R108). An entry stays taken until its message is acknowledged. -/
def sylTsend (n : Sector) (d a b : Fin 16) (s : State) : State :=
  let x := s.secs[n]
  let nw := (x.rdW b).toNat
  let used := s.tw.msgs.length + (s.tw.outst.filter fun f => decide (f.type = 2)).length
  if !s.secs[n].grant2.getLsbD 3 then (s.noGrant n).toP n 2 d false
  else if nw = 0 ∨ 32 < nw then (s.argError n).toP n 2 d false
  else if !s.isOn .twin ∨ s.role < 2 ∨ 8 ≤ used then s.toP n 2 d false
  else
    let k := s.net.nextId
    let s := s.onNet fun m => { m with nextId := m.nextId + 1 }
    let s := s.onTw fun t => { t with msgs := t.msgs ++ [⟨k, n, [], false⟩] }
    let s := { s with eng := { s.eng with copies := s.eng.copies ++ [(⟨n, false, x.rdW a, nw, k⟩ : SendCopy)] } }
    s.toP n 2 d true

def execTsend (d a b : Fin 16) (s : State) : Host.Outcome State Fault Refusal := .next (issueAlone (fun n => sylTsend n d a b) s)

/-- A sector's messages that have not begun transmission are freed (05 R118 step 5). -/
def State.dropMsgs (s : State) (n : Sector) : State := s.onTw fun t => { t with msgs := t.msgs.filter fun m => decide (m.sec ≠ n) }

/-! ## Mirroring (14 R337, R338) -/

/-- The chunks of a pass: every mirrored granule in ascending order. -/
def State.passChunks (s : State) : List Nat :=
  ((List.range 64).filter fun g => s.mem.mirrored.getLsbD g).flatMap fun g => (List.range 32).map fun c => g * 1024 + 32 * c

/-- A chunk of pass `id` is not written: the pass is not whole (14 R338). -/
def State.breakPass (s : State) (id : Nat) : State :=
  s.onTw fun t => { t with passes := t.passes.filter fun p => decide (p.id ≠ id) }

/-- A mirror pass runs until its last chunk has been sent and acknowledged. -/
def State.passRuns (s : State) : Bool := s.tw.pass.isSome || (s.tw.ready ++ s.tw.outst).any fun f => decide (f.type = 3)

/-- A frame boundary: a PRIMARY with the link UP starts a pass, or is late; a STANDBY ages its copy; frames not copied in time are
discarded and counted. -/
def State.twinBoundary (s : State) : State :=
  let s := s.onTw fun t => { t with logged := [] }
  let s := if s.role = 3 ∧ s.linkUp then
      if s.passRuns then s.setFlag F.TW_STAT_MIRLATE
      else match s.passChunks with
        | [] => s
        | l => s.onTw fun t => { t with pass := some (l, false) }
    else s
  let s := if s.role = 2 then s.bump F.TW_MSYNC_AGE else s
  let s := s.onTw fun t => { t with buf := t.buf.map fun w => { w with age := w.age + 1 } }
  let old := s.tw.buf.filter fun w => decide (2 ≤ w.age)
  let s := s.onTw fun t => { t with buf := t.buf.filter fun w => decide (w.age < 2) }
  old.foldl (fun s w =>
    if w.frame.type = 2 then s.bump (F.TW_RX_DROP w.frame.sect)
    else (s.bump F.TW_ERRB_MIRX).breakPass w.pass) s

/-- The chunk's granule is mirrored and belongs to the frame's sector. -/
def State.mirrorTakes (s : State) (f : LinkFrame) : Bool :=
  let g := (f.words.getD 0 0).toNat % 65536 / 1024
  let b := s.get (F.SEC_WIN_GBASE f.sect)
  decide (s.role = 2) && s.mem.mirrored.getLsbD g && decide (b ≤ g ∧ g < b + s.get (F.SEC_WIN_GLEN f.sect))

/-- A chunk arrives: with FIRST a pass begins and one without its LAST chunk is over, with LAST its pass is whole but for the copies. -/
def State.noteChunk (s : State) (w0 : Word) : State :=
  let s := if w0.getLsbD 17 then
      s.onTw fun t => { t with passNo := t.passNo + 1, passes := t.passes.filter (·.last) ++ [⟨t.passNo + 1, false⟩] }
    else s
  if w0.getLsbD 16 then
    s.onTw fun t => { t with passes := t.passes.map fun p => if p.id = t.passNo then { p with last := true } else p }
  else s

def execMirReceived (h : LinkHead) (ws : List Word) (s : State) : Host.Outcome State Fault Refusal :=
  let f : LinkFrame := ⟨3, h.sect, h.seq.toNat, ws⟩
  .next (s.acceptFrame f h.ack (decide (ws.length = 33)) (decide (s.tw.buf.length < 4) || !s.running h.sect || !s.mirrorTakes f) fun s =>
    let s := s.noteChunk (ws.getD 0 0)
    if !s.running h.sect then s.breakPass s.tw.passNo
    else if !s.mirrorTakes f then ((s.bump F.TW_ERRB_MIRX).twLogOf f h.ack.toNat 5).breakPass s.tw.passNo
    else s.bufferFrame ⟨f, h.ack.toNat, 0, 0, s.tw.passNo⟩)

/-- Words into Hamper from a physical address. -/
def State.storePhys (s : State) (p : Nat) : List Word → State
  | [] => s
  | v :: l => (s.writeHamper (p % 65536) v).storePhys (p + 1) l

/-- Physical address of the first word of a chunk, aligned to 32 words. -/
def LinkFrame.chunkAt (f : LinkFrame) : Nat := (f.words.getD 0 0).toNat % 65536 / 32 * 32

/-- A pass whose every chunk from FIRST to LAST has been written sets FULL and restarts AGE (14 R338). -/
def State.settlePasses (s : State) : State :=
  let done (p : MirrorPass) : Bool := p.last && !s.tw.buf.any fun w => decide (w.frame.type = 3 ∧ w.pass = p.id)
  if s.tw.passes.any done then
    ((s.setFlag F.TW_MSYNC_FULL).put F.TW_MSYNC_AGE 0).onTw fun t => { t with passes := t.passes.filter fun p => !done p }
  else s

/-- A buffered chunk is written, where the device still takes it. -/
def State.storeChunk (s : State) (w : LinkWait) : State :=
  if !s.mirrorTakes w.frame then ((s.bump F.TW_ERRB_MIRX).twLogOf w.frame w.ack 5).breakPass w.pass
  else (s.storePhys w.frame.chunkAt (w.frame.words.drop 1)).settlePasses

/-- The words of a chunk as they are read for the partner; a damaged word reads 0. -/
def readChunk : Nat → Nat → State → List Word × State
  | 0, _, s => ([], s)
  | k + 1, p, s =>
    let r := s.readHamper p
    let r' := readChunk k (p + 1) r.2
    (r.1 :: r'.1, r'.2)

/-- The next chunk of the pass is copied into a MIR frame. -/
def State.sendChunk (s : State) : State :=
  match s.tw.pass with
  | some (a :: rest, begun) =>
    let (ws, s) := readChunk 32 a s
    let w0 : Word := BitVec.ofNat 18 (bit (!begun) * 2 ^ 17 + bit rest.isEmpty * 2 ^ 16 + a)
    let n : Sector := ⟨s.granuleSector (a / 1024) % 4, by omega⟩
    s.onTw fun t => { t with ready := t.ready ++ [⟨3, n, 0, w0 :: ws⟩], pass := if rest.isEmpty then none else some (rest, true) }
  | _ => s

/-! ## Shadow records (14 R340) -/

/-- Three words of a record. -/
def recordOf : List Word → List ShdRec
  | w0 :: w1 :: w2 :: l =>
    ⟨⟨w0.toNat / 65536, by omega⟩, w0.toNat / 1024 % 64, w0.getLsbD 9, w0.getLsbD 8, w1.toNat, w2⟩ :: recordOf l
  | _ => []

def ShdRec.toWords (r : ShdRec) : List Word :=
  [BitVec.ofNat 18 (r.lane.val * 65536 + r.d % 64 * 1024 + bit r.flt * 512 + bit r.clip * 256), BitVec.ofNat 18 r.seq, r.value]

/-- A received record meets the sample held for it, or waits. -/
def State.takeRecord (s : State) (r : ShdRec) : State :=
  match s.lanes[r.lane].held.find? fun h => r.matches r.lane h with
  | some h => (s.onLane r.lane fun x => { x with held := x.held.filter fun y => decide (y ≠ h) }).compareShadow r.lane h r
  | none => s.onTw fun t => { t with shdIn := t.shdIn ++ [r] }

def execShdReceived (h : LinkHead) (ws : List Word) (s : State) : Host.Outcome State Fault Refusal :=
  let f : LinkFrame := ⟨4, h.sect, h.seq.toNat, ws⟩
  .next (s.acceptFrame f h.ack (decide (3 ≤ ws.length ∧ ws.length ≤ 30 ∧ ws.length % 3 = 0)) true fun s =>
    (recordOf ws).foldl State.takeRecord s)

/-- The oldest unmatched record of a lane has waited SHWAIT × 64 mck: discarded, and counted in W5. -/
def execShadowRecordExpiry (i : LaneId) (s : State) : Host.Outcome State Fault Refusal :=
  match takeFirst (fun (r : ShdRec) => decide (r.lane = i)) s.tw.shdIn with
  | none => .next s
  | some (_, rest) =>
    .next (s.onTw fun t => { t with shdIn := rest, mismatch := t.mismatch.set i (Nat.min (t.mismatch[i] + 1) 15) })

/-! ## TWIN bookings (02 R42, 14 R336, R337) -/

/-- Work for TWIN bookings. -/
inductive TwinJob where
  | heartbeat
  | chunkOut
  | copyIn (w : LinkWait)
  deriving DecidableEq, Repr

/-- Words left of a job: 6 of a heartbeat, 32 of a chunk, a message's entry. -/
def State.twinWords (s : State) : TwinJob → Nat
  | .heartbeat => 6 - s.tw.hbWords.length
  | .chunkOut => 32
  | .copyIn w => if w.frame.type = 2 then w.frame.entry.length - w.done else 32

/-- Words of a job's smallest part (02 Table CON-7: split by word); a mirror chunk is copied in one booking (14 R337). -/
def TwinJob.grain : TwinJob → Nat
  | .heartbeat => 1
  | .chunkOut => 32
  | .copyIn w => if w.frame.type = 2 then 1 else 32

/-- The words of Hamper, from a physical address, that the copy of a buffered frame writes. -/
def State.copyRun (s : State) (w : LinkWait) : Nat × Nat :=
  if w.frame.type = 2 then (s.physOf w.frame.sect (s.msgEntry w.frame.sect), w.frame.entry.length) else (w.frame.chunkAt, 32)

/-- The jobs that request bookings for sector n: the heartbeat, the next chunk out, the oldest received frame. -/
def State.twinJobs (s : State) (n : Sector) : List TwinJob :=
  let out : Bool := match s.tw.pass with
    | some (a :: _, _) => decide (s.role = 3) && s.linkUp && decide (s.granuleSector (a / 1024) = n.val)
    | _ => false
  (if n = 0 ∧ s.tw.hbDue ∧ s.linkUp ∧ 2 ≤ s.role then [TwinJob.heartbeat] else []) ++ (if out then [.chunkOut] else []) ++
    ((s.tw.buf.find? fun w => decide (w.frame.sect = n)).map TwinJob.copyIn).toList

/-- The banks a job reads or writes are ON; a request for one that is not waits for its floor (06 Table PWR-5). -/
def State.jobReady (s : State) : TwinJob → Bool
  | .heartbeat => true
  | .chunkOut => match s.tw.pass with
    | some (a :: _, _) => s.banksOn a 32
    | _ => false
  | .copyIn w => (decide (w.frame.type = 2) && !s.msgFits w.frame.sect) || s.banksOn (s.copyRun w).1 (s.copyRun w).2

/-- Cycles of a TWIN booking of `k` words (02 Table CON-7, 14 Table TWN-5). -/
def twinCycles (k : Nat) : Nat := 16 + k

/-- The job of sector n that a booking of at most `room` cycles takes, and its words: as many as fit, where a part of it does (02 R42). -/
def State.twinWork (s : State) (n : Sector) (room : Nat) : Option (TwinJob × Nat) :=
  ((s.twinJobs n).find? fun j => s.jobReady j && decide (twinCycles j.grain ≤ room)).map fun j => (j, Nat.min (s.twinWords j) (room - 16))

/-- `k` words of a job are done. Shadow mismatches restart with the heartbeat's last word. -/
def State.doTwin (s : State) (j : TwinJob) (k : Nat) : State :=
  match j with
  | .heartbeat =>
    let ws := s.tw.hbWords ++ (s.heartbeat.drop s.tw.hbWords.length).take k
    if ws.length < 6 then s.onTw fun t => { t with hbWords := ws }
    else s.onTw fun t => { t with hbDue := false, hbWords := [], mismatch := Vector.replicate 4 0, ready := t.ready ++ [⟨1, 0, 0, ws⟩] }
  | .chunkOut => s.sendChunk
  | .copyIn w =>
    let s := s.onTw fun t => { t with buf := t.buf.erase w }
    if w.frame.type = 2 then s.storeMsg w k else s.storeChunk w

/-- Work waits while no sector is RUNNING: the device serves it outside slots, with the core awake. -/
def State.twinDirect (s : State) : Bool := !sectors.any s.running && sectors.any fun n => !(s.twinJobs n).isEmpty

/-- Cycles left for TWIN bookings; back-to-back bookings outside slots have no window, and no job is longer than 49. -/
def State.twinRoom (s : State) : Nat :=
  if sectors.any s.running then s.slotRoom 1 else if s.isOn .core then 64 else 0

def execTwinBooking (s : State) : Host.Outcome State Fault Refusal :=
  let room := s.twinRoom
  match s.pickSector fun n => (s.twinWork n room).isSome with
  | none => .next s
  | some n => match s.twinWork n room with
    | none => .next s
    | some (j, k) => .next ((s.doTwin j k).book n (twinCycles k))

/-! ## Turns (14 R320 to R324) -/

/-- The payload of a TRAIN. -/
def State.trainWords (s : State) : List Word :=
  let w1 := s.role * 2 ^ 16 + s.get F.TW_STAT_CLMOWN * 2 ^ 15 + s.get F.TW_CTL_PREF * 2 ^ 14 + bit s.tw.gotTrain * 2 ^ 13
  [s.incarnation, BitVec.ofNat 18 w1, BitVec.ofNat 18 (s.serial / 2 ^ 32 % 65536), BitVec.ofNat 18 (s.serial / 65536 % 65536),
   BitVec.ofNat 18 (s.serial % 65536), s.word A.SCH_FRAME]

/-- Shadow records in SHD frames of up to 10, at most `k` frames (14 R340). -/
def shadowFrames : Nat → List ShdRec → List LinkFrame
  | 0, _ => []
  | _, [] => []
  | k + 1, l => ⟨4, 0, 0, (l.take 10).flatMap ShdRec.toWords⟩ :: shadowFrames k (l.drop 10)

/-- New frames that wait, in the order HB, SHD, MSG, MIR. -/
def State.newFrames (s : State) : List LinkFrame :=
  let of (k : Nat) := s.tw.ready.filter fun f => decide (f.type = k)
  let shd := shadowFrames s.tw.shdOut.length s.tw.shdOut
  let msg := (s.tw.msgs.filter (·.ready)).map fun m => (⟨2, m.sec, 0, m.words⟩ : LinkFrame)
  of 1 ++ shd ++ msg ++ of 3

/-- Number frames as they are first sent. -/
def numberFrames (q : Nat) : List LinkFrame → List LinkFrame
  | [] => []
  | f :: l => { f with seq := q } :: numberFrames ((q + 1) % 8) l

/-- The waiting frames that a turn has taken leave their queues. -/
def State.takeSent (s : State) (l : List LinkFrame) : State :=
  let count (k : Nat) := (l.filter fun f => decide (f.type = k)).length
  let gone := (s.tw.msgs.filter (·.ready)).take (count 2)
  s.onTw fun t =>
    { t with shdOut := t.shdOut.drop (10 * count 4)
             msgs := t.msgs.filter fun m => !gone.any fun g => decide (g.id = m.id)
             ready := (t.ready.filter fun f => decide (f.type = 1)).drop (count 1) ++
               (t.ready.filter fun f => decide (f.type = 3)).drop (count 3) }

/-- A heartbeat that carried YIELD has gone: shared outputs, then TWCLM, are released (14 R335). -/
def State.afterYield (s : State) : State :=
  let s := s.onTw fun t => { t with yield := false, yielding := true, dropClaim := true }
  s.releaseShared.settleClaim

/-- The frames of a turn: TRAIN and ACK at its head, then the outstanding frames when they go again, or new ones within the window. -/
def State.driveTurn (s : State) (long : Bool) : State :=
  let train : List LinkFrame := if s.tw.sendTrain then [⟨5, 0, 0, s.trainWords⟩] else []
  let room := 4 - train.length
  let again := if s.linkUp ∧ s.tw.resend then s.tw.outst.take room else []
  let fresh := if s.linkUp ∧ !s.tw.resend then
      numberFrames s.tw.nextSeq (s.newFrames.take (Nat.min room (4 - s.tw.outst.length))) else []
  let ack : List LinkFrame := if s.tw.owesAck && train.isEmpty && again.isEmpty && fresh.isEmpty then [⟨0, 0, 0, []⟩] else []
  let sent := train ++ ack ++ again ++ fresh
  let yielded := s.tw.yield && fresh.any fun f => decide (f.type = 1) && (f.words.getD 1 0).getLsbD 14
  let s := s.takeSent fresh
  let s := s.onTw fun t =>
    { t with sendTrain := false, owesAck := false, resend := false
             nextSeq := (t.nextSeq + fresh.length) % 8
             outst := t.outst ++ fresh
             stalled := if again.isEmpty && fresh.isEmpty then t.stalled else t.stalled + 1
             turn := ⟨long, sent.map (·.bytes t.expect), false⟩ }
  if yielded then s.afterYield else s

/-- The device drives a turn; `long` tells that it has neither sent nor received for 64 µs, `collide` that the pair was not as driven
within the first 16 characters, so that nothing of the turn counts as sent. Without VDDIO the pair is not driven (14 R318). -/
def execTangentTurnStart (long collide : Bool) (s : State) : Host.Outcome State Fault Refusal :=
  .next (
    if !s.isOn .twin ∨ !s.pins.vddio then s
    else if collide then (s.bump F.TW_ERRB_COLL).onTw fun t => { t with turn := ⟨long, [], true⟩ }
    else s.driveTurn long)

/-- Characters from the partner that make no valid frame or turn (14 Table TWN-6). -/
def execTangentFrameError (e : LinkError) (s : State) : Host.Outcome State Fault Refusal :=
  .next (
    if !s.isOn .twin then s else
    match e with
    | .crc h0 h1 => (s.bump F.TW_ERRA_CRCE).twLogFrame h0 h1 1
    | .character => (s.bump F.TW_ERRB_CODEE).twLog 0 0 2 0
    | .type h0 h1 => (s.bump F.TW_ERRB_TYPX).twLogFrame h0 h1 3
    | .babble k => (s.bump F.TW_ERRB_BABL).twLog 0 0 7 k)

/-! ## Ticks -/

/-- One tick of the link's timers. -/
def State.tickTwin (s : State) : State :=
  s.onTw fun t =>
    { t with claimAge := if s.isSet F.TW_STAT_CLMOWN then t.claimAge + 1 else t.claimAge
             claimWait := t.claimWait - 1
             trainAge := if s.isSet F.TW_STAT_TRN then t.trainAge + 1 else t.trainAge
             retry := t.retry.map (· - 1)
             hbAge := if s.linkUp then t.hbAge + 1 else t.hbAge }

end Sys2Proof.Machine
end

