-- ==== Sys2Proof/Machine/Power.lean ====
section
/-! DEFINITION. Power domains, wakes, the regulator and the clock sources (06). -/

namespace Sys2Proof.Machine

/-! ## Floors and targets (06 R146) -/

/-- A sector has a segment that runs, drains, waits or is about to start. -/
def State.segmentHeld (s : State) (n : Sector) : Bool :=
  decide (n ∈ s.pwr.awake) || decide (s.eng.drain = some n) || s.eng.waiting.any (fun w => decide (w.sec = n)) ||
    match s.eng.cur with
    | some g => decide (g.sec = n)
    | none => false

/-- The core has work: a segment, a prologue, a drain, a sector reset, or direct service. -/
def State.coreBusy (s : State) : Bool :=
  sectors.any (fun n => s.segmentHeld n || s.secs[n].rstBusy || s.secs[n].rstWait.isSome) ||
    (s.host.direct && decide (s.host.state = 1)) || s.twinDirect || s.boot.guest.isSome

/-- A copy, a service request or a mirroring transfer addresses a word in bank k. -/
def State.bankWanted (s : State) (k : Nat) : Bool :=
  (s.eng.copies.any fun c => touchesBank k (s.physOf c.sec c.base.toNat) c.left) ||
  (decide (s.host.state = 1) && decide (s.host.txn.op = 3 ∨ s.host.txn.op = 4) &&
    touchesBank k (s.physOf s.host.txn.sect s.host.txn.addr.toNat) s.host.txn.cnt) ||
  (s.net.rx.any fun c => touchesBank k (s.physOf c.sec (s.rxEntry c.sec)) 64) ||
  (s.tw.buf.any fun w => touchesBank k (s.copyRun w).1 (s.copyRun w).2) ||
  match s.tw.pass with
  | some (a :: _, _) => touchesBank k a 32
  | _ => false

/-- An output holds a HOLD or SAFE disposition: its DA flag, and its disposition code. -/
def holdsDisposition (s : State) (da disp : Fld) : Bool := s.isSet da && decide (s.get disp = 1 ∨ s.get disp = 2)

/-- The floor of a domain (06 Table PWR-5). -/
def State.floor (s : State) (d : Dom) : DomState :=
  let onIf (b : Bool) : DomState := if b then .on else .off
  match d with
  | .core => onIf s.coreBusy
  | .imem =>
    if sectors.any s.segmentHeld then .on
    else if sectors.any fun n => s.isSet (F.SEC_CTL_IMG n) then .ret else .off
  | .hb k =>
    onIf (s.bankWanted k || sectors.any fun n => s.segmentHeld n && s.windowTouches n k && decide (s.resolved (.hb k) ≠ .off))
  | .lane i => if s.lanes[i].mode = 0 then .off else .ret
  | .exc => onIf ((List.range 4).any (fun u => s.isSet (F.IEXC_CTL_EN u)) || s.isSet F.VEXC_CTL_EN)
  | .tia => .off
  | .aout => onIf (aouts.any fun (n : Fin 2) => s.aoEnabled n || holdsDisposition s (F.OUT_AOST_DA n) ⟨A.OUT_DISP, 2 * n + 9, 2 * n + 8⟩)
  | .fsw => onIf (switches.any fun (k : Fin 4) => s.fswClosed k || decide (s.fswState k = 6) ||
      holdsDisposition s (F.OUT_FSW_DA k) ⟨A.OUT_DISP, 2 * k + 1, 2 * k⟩)
  | .net => onIf (s.net.tx.any (·.bytes.isSome) || decide (s.pwr.hold[2] ≠ 0))
  | .twin => onIf ((decide (2 ≤ s.role) && (s.tw.hbDue || s.tw.ready.any fun f => decide (f.type = 1))) || !s.tw.outst.isEmpty ||
      decide (s.pwr.hold[1] ≠ 0))
  | .flash => onIf (s.mem.factive.isSome || s.mem.fsusp.isSome)
  | .host => onIf (decide (s.host.state ≠ 0) || decide (s.pwr.hold[0] ≠ 0))

/-- The state of a domain during boot (16 Table RST-4, R378): before the boot wake CORE, IMEM and the banks keep what they can in RET. -/
def State.bootTarget (s : State) (d : Dom) : DomState :=
  if domIsW d then
    if s.boot.phase < 2 then (if (s.dom d).state = .off then .off else .ret) else .on
  else match d with
    | .flash => if s.boot.phase < 2 then .off else .on
    | .host => if s.boot.phase < 2 then .off else .ret
    | _ => .off

/-- The target of a domain: its boot state, or its resolved state, lowered to RET by auto-retention (06 R147), CORE forced to OFF in CRIT
(07 R178); raised to its floor. -/
def State.domTarget (s : State) (d : Dom) : DomState :=
  let v := if s.boot.phase < 6 then s.bootTarget d else s.resolved d
  let v := match d with
    | .lane i => if s.pwr.autoRet[i] ∧ v = DomState.on then DomState.ret else v
    | .core => if s.get F.THERM_STAT_LEVEL = 3 then DomState.off else v
    | _ => v
  v.max (s.floor d)

/-- Targets that have changed meet the transitions in progress (06 R150). -/
def State.retargetAll (s : State) : State := allDoms.foldl (fun s d => s.retarget d (s.domTarget d)) s

/-! ## LOADEST and the regulator (06 R156, R157) -/

/-- Weight of a domain in a state, µA (06 Table PWR-8). ON of CORE, IMEM and the banks forces FULL, and the table gives it no weight: DESIGN
CHOICE, it counts as RET does (notes/assumptions/82.md). -/
def State.loadOf (s : State) (d : Dom) : DomState → Nat
  | .off => 0
  | .ret => match d with
    | .core => 60 | .imem => 25 | .hb _ => 8 | .lane _ => 10
    | .exc | .tia | .aout | .fsw => 5
    | .net => 30 | .twin => 15 | .flash => 10 | .host => 10
  | .on => match d with
    | .core => 60 | .imem => 25 | .hb _ => 8
    | .lane i => [600, 350, 220, 150, 120].getD (Nat.min s.pwr.mdiv[i] 4) 120
    | .exc | .tia | .aout | .fsw => 20
    | .net => 1400 | .twin => 900 | .flash => 400 | .host => 300

/-- LOADEST in µA: every domain in its present state or target, whichever is higher. -/
def State.loadEst (s : State) : Nat :=
  (allDoms.map fun d => s.loadOf d ((s.dom d).state.max (s.domTarget d))).sum + (if s.pwr.pll then 1100 else 0)

/-- A wake of the core runs; a lane's PLL start is none (06 R152, R451). -/
def State.coreWakes (s : State) : Bool := s.pwr.wake.any (·.core)

/-- CORE, IMEM or a bank is ON or goes to ON, or a wake of the core runs: FULL is forced. -/
def State.fullForced (s : State) : Bool :=
  s.coreWakes || allDoms.any fun d => domIsW d && (decide ((s.dom d).state = .on) || decide ((s.dom d).moving = some .on))

/-- The mode that IDLE asks for at a load of `extra` µA over LOADEST: FULL when true. From a device reset to boot phase B2 it is LOW whatever
IDLE holds. -/
def State.idleFullAt (s : State) (extra : Nat) : Bool :=
  decide (2 ≤ s.boot.phase) &&
    match s.get F.PWR_REGCTL_IDLE with
    | 1 => true
    | 2 => false
    | _ => decide (2400 < s.loadEst + extra)

/-- The mode that IDLE asks for: FULL when true. -/
def State.idleFull (s : State) : Bool := s.idleFullAt 0

/-- The regulator takes a mode; REGRDY tells FULL. -/
def State.setRegulator (s : State) (full : Bool) : State :=
  (s.put F.PWR_REGCTL_MODE (bit full)).put F.PWR_WAKE_STATUS_REGRDY (bit full)

/-- CORE, IMEM and every bank have been down for 1 µs: LOW, where IDLE asks for it. -/
def execRegulatorToLow (s : State) : Host.Outcome State Fault Refusal :=
  .next (if s.fullForced ∨ s.idleFull then s else s.setRegulator false)

/-- Between segments the mode follows IDLE. -/
def State.settleRegulator (s : State) : State := if s.fullForced then s else s.setRegulator s.idleFull

/-- The PLL stops when CORE is down, nothing wakes and no lane needs MCLK (01 R20, 06 R134). -/
def State.settlePll (s : State) : State :=
  if s.pwr.pll && decide ((s.dom .core).state ≠ .on) && s.pwr.wake.isNone && lanes4.all (fun i => !s.laneNeedsClock i) then s.pllOff else s

/-! ## Transitions (06 R149 to R151) -/

/-- What leaving ON does as a fall starts, its clamps applied (06 R142). -/
def State.leaveOn (s : State) (d : Dom) (t : DomState) : State :=
  match d with
  | .lane i => s.calAbortOn i
  | .net => s.linkDrop
  | .fsw => if t = .off then s.fswDomainDown else s
  | .aout => s.aoDomainDown
  | .tia => s.closeShunts
  | _ => s

/-- A bank loses its contents; power-up writes zero with valid check bits (06 Table PWR-2). -/
def State.clearBank (s : State) (k : Nat) : State :=
  let out (a : Nat) : Bool := decide (a / 8192 ≠ k)
  { s with mem := { s.mem with hamper := s.mem.hamper.filter (fun c => out c.1), upset := s.mem.upset.filter fun c => out c.1 } }

/-- What reaching a state does. -/
def State.reach (s : State) (d : Dom) (t : DomState) : State :=
  match d, t with
  | .core, .off => sectors.foldl (fun s n => s.onSec n fun x => { x with lost := true }) s
  | .imem, .off => { s with eng := { s.eng with imem := [], imemUpset := [], imemFix := [] } }
  | .hb k, .off => s.clearBank k
  | .lane i, .off => (s.onLane i fun x => { x.stop with stream := [], fifo := [], held := [] }).setMode i 0
  | .fsw, .on => s.fswDomainUp
  | .fsw, .off => s.fswDomainOff
  | .aout, .on => s.aoDomainUp
  | .aout, _ => s.aoDomainOff
  | .net, .on => s.linkStart
  | .tia, .on => s.tiaDomainUp
  | _, _ => s

/-- A transition to `t` starts. IMEM or a bank that rises to ON forces FULL; in AUTO a rise over the threshold first takes the regulator
there. -/
def State.startMove (s : State) (d : Dom) (t : DomState) : State :=
  let x := s.dom d
  let s := if x.state = .on then s.leaveOn d t else s
  let s := s.setDom d { x with moving := some t, pend := none }
  if x.state.rank < t.rank ∧ s.get F.PWR_REGCTL_MODE = 0 ∧ (s.fullForced ∨ s.idleFull) then s.setRegulator true else s

/-- A domain may start a transition of its own to `t`: CORE rises only through a wake, and never from OFF to RET. -/
def mayMove (d : Dom) (cur tgt : DomState) : Bool :=
  match d with
  | .core => decide (tgt.rank < cur.rank)
  | _ => decide (tgt ≠ cur)

/-- A changed target starts its transition. -/
def execDomainTransitionStart (d : Dom) (s : State) : Host.Outcome State Fault Refusal :=
  .next (
    let x := s.dom d
    let t := s.domTarget d
    if x.moving.isNone ∧ mayMove d x.state t then s.startMove d t else s)

/-- The transition completes; a target that has changed meanwhile is the pending request. -/
def execDomainTransitionComplete (d : Dom) (s : State) : Host.Outcome State Fault Refusal :=
  .next (
    match (s.dom d).moving with
    | none => s
    | some t =>
      let s := (s.setDom d { state := t, moving := none, pend := none }).reach d t
      let t' := s.domTarget d
      let s := if mayMove d t t' then s.setDom d { state := t, moving := none, pend := some t' } else s
      let s := s.settlePll
      if domIsW d then s else s.settleRegulator)

/-- The pending request starts in the next PCLK cycle. -/
def execPendingTransitionStart (d : Dom) (s : State) : Host.Outcome State Fault Refusal :=
  .next (
    let x := s.dom d
    match x.moving, x.pend with
    | none, some t => if mayMove d x.state t then s.startMove d t else s.setDom d { x with pend := none }
    | _, _ => s)

/-- W domains begin to take their resolved states. -/
def State.settleW (s : State) : State :=
  allDoms.foldl (fun s d =>
    if domIsW d then
      let x := s.dom d
      let t := s.domTarget d
      if x.moving.isNone then (if mayMove d x.state t then s.startMove d t else s) else s.retarget d t
    else s) s

/-- The cycles of a drain, at most `k`: they pass until the last result in flight is written (04 R89). -/
def drainCycles : Nat → State → Nat × State
  | 0, s => (0, s)
  | k + 1, s =>
    if s.eng.flights.isEmpty then (0, s) else
    let r := drainCycles k s.copyCycle.endCycle
    (r.1 + 1, r.2)

/-- Cycles that CORE worked for sector n (07 R165). -/
def State.worked (s : State) (n : Sector) (k : Nat) : State := s.onSec n fun x => { x with cycles := x.cycles + k }

/-- Cycles of CORE's fall, 0.2 µs (06 Table PWR-6). -/
def fallCycles : Nat := 160

/-- The drain ends: the results in flight are written, a latched WAIT becomes the sector's W votes, and CORE, IMEM and the banks go to their
resolved states (03 R70, 04 R89, 06 R143, R145). Send copies go on past it (04 R109). The sector pays for the drain, and for a fall of CORE
that follows it (07 Table NRG-1). -/
def execDrainEnd (s : State) : Host.Outcome State Fault Refusal :=
  match s.eng.drain with
  | none => .next s
  | some n =>
    let r := drainCycles 64 s
    let s := r.2.worked n r.1
    let s := match s.secs[n].latch with
      | some v => { s with pwr := { s.pwr with votes := s.pwr.votes.set n v } }
      | none => s
    let s := s.onSec n fun x => { x with latch := none }
    let s := { s with eng := { s.eng with drain := none }, pwr := { s.pwr with awake := s.pwr.awake.filter (· ≠ n) } }
    let t := s.settleW
    .next (if (s.dom .core).moving.isNone && (t.dom .core).moving.isSome then t.worked n fallCycles else t)

/-! ## Wakes (06 R130, R152, R451) -/

/-- A domain is brought to a state by a wake. -/
def State.bringOn (s : State) (d : Dom) : State :=
  let s := s.setDom d { state := .on, moving := none, pend := none }
  s.reach d .on

/-- The memory stage: IMEM, and the banks of the waking sectors' windows whose resolved state is RET, go to ON (06 R145); during boot, IMEM
and every bank (16 Table RST-3). -/
def State.memoryStage (s : State) (secs : List Sector) : State :=
  if s.boot.phase < 6 then allDoms.foldl (fun s d => if domIsW d && decide (d ≠ .core) then s.bringOn d else s) s else
  let s := { s with pwr := { s.pwr with awake := secs } }
  let s := if s.resolved .imem ≠ .off ∨ sectors.any (fun n => s.isSet (F.SEC_CTL_IMG n)) then s.bringOn .imem else s
  allDoms.foldl (fun s d =>
    match d with
    | .hb k => if secs.any (fun n => s.windowTouches n k) && decide (s.resolved d ≠ .off) && decide ((s.dom d).state ≠ .on) then s.bringOn d else s
    | _ => s) s

/-- The wake goes on to stage `k`. -/
def State.wakeTo (s : State) (w : WakeSt) (k : Nat) : State := { s with pwr := { s.pwr with wake := some { w with stage := k } } }

/-- A lane's PLL start takes the regulator to FULL only where R156 requires it: FULL is forced, or IDLE asks for it with the PLL running. -/
def State.pllNeedsFull (s : State) : Bool := s.fullForced || s.idleFullAt (if s.pwr.pll then 0 else 1100)

/-- The stage of the wake that runs is complete: its ready bit sets and the next starts; a lane's PLL start ends with the PLL. The stages
wait for a fall of CORE in progress (06 R153). -/
def execWakeStageReady (s : State) : Host.Outcome State Fault Refusal :=
  .next (
    match s.pwr.wake with
    | none => s
    | some w =>
      if (s.dom .core).moving.isSome then s else
      match w.stage with
      | 0 => (if w.core || s.pllNeedsFull then s.setRegulator true else s).wakeTo w 1
      | 1 => ({ s with pwr := { s.pwr with xtal := .run } }.setFlag F.PWR_WAKE_STATUS_OSCRDY).wakeTo w 2
      | 2 =>
        let s := s.pllOn.setFlag F.PWR_WAKE_STATUS_PLLRDY
        if w.core then s.wakeTo w 3
        else { s with pwr := { s.pwr with wake := none } }.settleRegulator
      | 3 => ((s.memoryStage w.secs).setFlag F.PWR_WAKE_STATUS_MEMRDY).wakeTo w 4
      | _ =>
        let s := { s with pwr := { s.pwr with wake := none } }.setDom .core { state := .on, moving := none, pend := none }
        (s.setFlag F.PWR_WAKE_STATUS_LOGRDY).put F.PWR_WAKE_STATUS_BUSY 0)

/-- Segments that wait for an abandoned wake are skipped: their anchors fall before the next wake's start (06 R130). -/
def State.oscSkipWaiting (s : State) : State :=
  s.eng.waiting.foldl (fun s w => match s.segOf w.sec w.frame w.tier w.idx with
    | some g => (s.bump F.CLK_STAT_OSCSKIP).dropCharge w.sec g.qseg
    | none => s) { s with eng := { s.eng with waiting := [] } }

/-- The oscillator stage has run for 4.0 ms without OSCRDY: the wake is abandoned (06 R130). -/
def execOscfail (s : State) : Host.Outcome State Fault Refusal :=
  .next (
    match s.pwr.wake with
    | none => s
    | some w =>
      if w.stage ≠ 1 then s else
      let s := (s.setFlag F.CLK_STAT_OSCFAIL).log 7 0 0 1 (if w.core then s.get F.PWR_WAKE_STATUS_KIND else s.wakeKind)
      let s := { s with pwr := { s.pwr with wake := none, xtal := .stop, oscDead := s.pwr.oscDead || w.core, pllWait := !w.core } }
      (if w.core then (s.put F.PWR_WAKE_STATUS_BUSY 0).oscSkipWaiting else s).settleRegulator)

/-- A lane needs MCLK while the PLL is stopped: the stages before the memory stage run without waking the core. -/
def execLanePllStart (s : State) : Host.Outcome State Fault Refusal :=
  .next (
    if s.pwr.pll || s.pwr.wake.isSome then s
    else ({ s with pwr := { s.pwr with wake := some ⟨0, false, []⟩, wakeAge := 0 } }.put F.PWR_WAKE_STATUS_OSCRDY (bit (decide (s.pwr.xtal = Xtal.run)))).put
      F.PWR_WAKE_STATUS_PLLRDY 0)

/-! ## Raises (06 R154) -/

/-- A raise by HCS, TACT or NED: recorded, and the domain held at ON. -/
def State.raiseDom (s : State) (k : Fin 3) (code bitNo : Nat) : State :=
  if s.get F.PWR_WAKEEN_EN / 2 ^ bitNo % 2 = 0 then s
  else
    let s := s.recordWake code true
    ({ s with pwr := { s.pwr with hold := s.pwr.hold.set k s.holdTicks } }).retargetAll

/-- A falling HCS# edge. -/
def execHcs (s : State) : Host.Outcome State Fault Refusal := .next (s.raiseDom 0 4 2)

/-- Tangent activity with TWIN in RET. -/
def execTact (s : State) : Host.Outcome State Fault Refusal :=
  .next (if (s.dom .twin).state = .ret then s.raiseDom 1 5 3 else s)

/-- Network energy with NET in RET. -/
def execNed (s : State) : Host.Outcome State Fault Refusal :=
  .next (if (s.dom .net).state = .ret then s.raiseDom 2 6 4 else s)

/-- The hold after the last activity ends, its last tick running: the domain returns to its target. -/
def execWakeRaiseHoldExpiry (k : Fin 3) (s : State) : Host.Outcome State Fault Refusal :=
  .next (if s.pwr.hold[k] = 1 then ({ s with pwr := { s.pwr with hold := s.pwr.hold.set k 0 } }).retargetAll else s)

/-! ## Lanes (06 R135, R147) -/

/-- The lane has been in READY for PWR_LRET.TICKS ticks with its domain's target ON: auto-retention. -/
def execLaneAutoRetention (i : LaneId) (s : State) : Host.Outcome State Fault Refusal :=
  .next (
    let t := s.get F.PWR_LRET_TICKS
    if t ≠ 0 ∧ s.lanes[i].mode = 1 ∧ s.resolved (.lane i) = .on ∧ t ≤ s.pwr.readyTicks[i] then
      { s with pwr := { s.pwr with autoRet := s.pwr.autoRet.set i true } }
    else s)

/-- MDIVi as written. -/
def fMdiv (i : Nat) : Fld := ⟨A.CLK_MDIV, 3 * i + 2, 3 * i⟩

/-- MDPENDi. -/
def fMdpend (i : Nat) : Fld := ⟨A.CLK_MDIV, 12 + i, 12 + i⟩

/-- A pending divider takes effect once the lane is OFF or READY or its domain is in RET. -/
def State.applyMdiv (s : State) (i : LaneId) : State :=
  if s.isSet (fMdpend i) ∧ (s.lanes[i].mode ≤ 1 ∨ (s.dom (.lane i)).state = .ret) then
    ({ s with pwr := { s.pwr with mdiv := s.pwr.mdiv.set i (s.get (fMdiv i)) } }).put (fMdpend i) 0
  else s

def execMdivApply (i : LaneId) (s : State) : Host.Outcome State Fault Refusal := .next (s.applyMdiv i)

/-! ## Clock sources (06 R129 to R132) -/

/-- XKEEP committed: it acts at once while the PLL is stopped. -/
def State.setXkeep (s : State) (v : Bool) : State :=
  let s := s.put F.CLK_CTL_XKEEP (bit v)
  if s.pwr.pll then s else
  let x := match v, s.pwr.xtal with
    | false, .standby => Xtal.stop
    | false, .starting => Xtal.stop
    | true, .stop => Xtal.starting
    | _, x => x
  { s with pwr := { s.pwr with xtal := x } }

/-- SCSEL committed: 01b takes the LPO alone, with no entry (06 R132). -/
def State.setScsel (s : State) (v : Nat) : State :=
  let s := s.put F.CLK_CTL_SCSEL v
  if v = 1 then ({ s with pwr := { s.pwr with slowXtal := false, slowLost := false, lpoTicks := 0 } }).put F.CLK_STAT_SCSRC 0 else s

/-- A write of CLK_CTL commits. -/
def State.setClkCtl (s : State) (v : Word) : State := (s.setXkeep (v.getLsbD 0)).setScsel (v.toNat / 2 % 4)

def execXkeepWrite (v : Bool) (s : State) : Host.Outcome State Fault Refusal := .next (s.setXkeep v)

/-- A start under XKEEP has seen 64 good periods. -/
def execCrystalStandbyReached (s : State) : Host.Outcome State Fault Refusal :=
  .next (if s.pwr.xtal = .starting then { s with pwr := { s.pwr with xtal := .standby } } else s)

/-- The slow crystal is lost: the slow clock changes to the LPO. -/
def execScfail (s : State) : Host.Outcome State Fault Refusal :=
  .next (
    if s.pwr.slowXtal then
      (({ s with pwr := { s.pwr with slowXtal := false, slowLost := true, lpoTicks := 0 } }.put F.CLK_STAT_SCSRC 0).setFlag
        F.CLK_STAT_SCFAIL).log 7 0 1 2 0
    else s)

/-- The slow crystal has run 1024 stable periods; a return after a loss is logged with the ticks run on the LPO. -/
def execSlowClockToCrystal (s : State) : Host.Outcome State Fault Refusal :=
  .next (
    if s.pwr.slowXtal ∨ s.get F.CLK_CTL_SCSEL = 1 then s else
    let s := if s.pwr.slowLost then s.log 7 0 1 3 (Nat.min s.pwr.lpoTicks 0x3FFFF) else s
    ({ s with pwr := { s.pwr with slowXtal := true, slowLost := false } }).setFlag F.CLK_STAT_SCSRC)

/-! ## Ticks -/

/-- One tick of the power manager's counts. -/
def State.tickPower (s : State) : State :=
  let hold := Vector.ofFn fun (k : Fin 3) =>
    let h := s.pwr.hold[k]
    if k = 0 ∧ s.host.selected ∧ h ≠ 0 then s.holdTicks else if h ≤ 1 then h else h - 1
  let ready := Vector.ofFn fun (i : Fin 4) =>
    if s.lanes[i].mode = 1 ∧ s.resolved (.lane i) = .on then s.pwr.readyTicks[i] + 1 else 0
  let ret := Vector.ofFn fun (i : Fin 4) => s.pwr.autoRet[i] && decide (s.resolved (.lane i) = .on)
  let lpo := if s.pwr.slowLost then s.pwr.lpoTicks + 1 else s.pwr.lpoTicks
  ({ s with pwr := { s.pwr with hold := hold, readyTicks := ready, autoRet := ret, lpoTicks := lpo, wakeAge := s.pwr.wakeAge + 1 } }).settlePll

end Sys2Proof.Machine
end

