-- ==== Sys2Proof/Machine/Sectors.lean ====
section
/-! DEFINITION. Sectors: commands, resets, watchdogs, virtual lines, grants (05 R115 to R128). -/

namespace Sys2Proof.Machine

/-! ## Reset columns -/

/-- Offsets of a register's instances, with their indices. -/
def instances : List (Nat × Nat) → List (Nat × List Nat)
  | [] => [(0, [])]
  | (count, stride) :: rest =>
    (List.range count).flatMap fun i => (instances rest).map fun o => (i * stride + o.1, i :: o.2)

/-- Fields of one register instance take the values `col` gives them. -/
def State.columnAt (s : State) (col : FieldRow → Option Nat) (a : Nat) (r : RegRow) : State :=
  r.fields.foldl (fun s f =>
    match col f with
    | some v => if f.acc = .wo then s else s.setBits a f.mask (f.place v)
    | none => s) s

/-- The instances of a register that belong to sector n: its index is the sector, and a lane's registers belong to the lane's sector. -/
def State.ownsInstance (s : State) (n : Sector) (r : RegRow) (ix : List Nat) : Bool :=
  match ix with
  | [] => false
  | i :: _ => if h : 0x300 ≤ r.base ∧ r.base < 0x400 ∧ i < 4 then s.hasLane n ⟨i, h.2.2⟩ else decide (i = n.val)

/-- Registers with a SEC column take their SEC values (05 R118 step 7). -/
def State.secColumn (s : State) (n : Sector) : State :=
  let s := regMap.foldl (fun s r =>
    if r.fields.any (fun f => f.sec.isSome) then
      (instances r.dims).foldl (fun s o => if s.ownsInstance n r o.2 then s.columnAt (·.sec) (r.base + o.1) r else s) s
    else s) s
  s.put ⟨A.SCH_LATE, 4 * n + 3, 4 * n⟩ 0

/-! ## Resets (05 R117 to R119) -/

/-- A reset is triggered; while CORE is not ON it first wakes the core (05 R119, 06 Table PWR-7 code 9). -/
def State.triggerReset (s : State) (n : Sector) (cause : Nat) : State :=
  let t := s.callReset n cause
  if s.running n ∧ ¬ (s.isOn .core ∧ (s.dom .core).moving.isNone) then t.startWake 9 [] else t

/-- The engine lets a sector go: nothing of it issues any more, and its results in flight and copies are discarded. -/
def State.dropIssue (s : State) (n : Sector) : State :=
  let mine : Bool := match s.eng.cur with
    | some g => decide (g.sec = n)
    | none => false
  let e := s.eng
  { s with
    eng := { e with
      cur := if mine then none else e.cur
      drain := if mine then some n else e.drain
      waiting := e.waiting.filter fun w => decide (w.sec ≠ n)
      flights := e.flights.filter fun f => decide (f.sec ≠ n) }
    pwr := { s.pwr with awake := s.pwr.awake.filter (· ≠ n) } }

/-- What a sector has after a reset: zeroed at its next segment (03 R53), its frame abandoned, its watchdog restarted. -/
def SectorSt.afterReset (x : SectorSt) : SectorSt :=
  { x with lost := true, latch := none, stack := [], lastPop := Vector.replicate 4 none, inFrame := false, cancelled := false,
           wdt := 0, rstWait := none, rstBusy := true }

/-- Thermos 005h + n: the cause and CLK_TICK[17:4] (12 Table MEM-1). -/
def State.recordSecReset (s : State) (n : Sector) (cause : Nat) : State :=
  s.setThermos (5 + n) (BitVec.ofNat 18 (cause * 16384 + s.tick / 16 % 16384))

/-- The events of a sector clear and its lines deassert (05 R118 step 6). -/
def State.dropEvents (s : State) (n : Sector) : State :=
  let s := (s.put (F.SEC_EVL_EV n) 0).put (F.SEC_EVH_EV n) 0
  (List.range 4).foldl (fun s k => s.put (F.SEC_VRT_ACT n k) 0) s

/-- The image operation the port's transaction waits for. -/
def State.portOp (s : State) : Option FlashOp := s.flashHeld.find? (·.port)

/-- A PENDING host transaction stops with code ABORTED; what was served stands, and an image WRITE or ERASE tells how far it came (13 R304,
R309). -/
def State.abortTxn (s : State) : State :=
  if s.host.state = 1 then
    let t := s.host.txn
    let ans := if t.op = 7 then (match s.portOp with | some o => if o.op = 10 then [] else [o.imageWord] | none => []) else t.answer
    { s.orphanImage with
      host := { s.host with state := 2, doneTicks := 0, direct := false, txn := { t with code := 7, answer := ans, inFlash := false } } }
  else s

/-- The actions of a reset of sector n, in the order of 05 R118; its metering interval is void (07 R170). -/
def State.resetActions (s : State) (n : Sector) : State :=
  let s := { s with ldg := { s.ldg with iv := s.ldg.iv.set n { s.ldg.iv[n] with void := true } } }
  let s := if s.host.txn.sect = n then s.abortTxn else s
  let s := (s.dropIssue n).abandonLocks n
  let s := lanes4.foldl (fun s i => if s.hasLane n i then s.flushLane i else s) s
  let s := { s with cal := { s.cal with queue := s.cal.queue.filter fun r => decide (r.sec ≠ n) } }.removeFlash n
  let s := ((s.dropFrames n).dropMsgs n).staleCommands fun c => decide (c.sec = n)
  (s.dropEvents n).secColumn n

/-- A triggered reset begins, CORE being ON (05 R118). -/
def execSectorReset (n : Sector) (s : State) : Host.Outcome State Fault Refusal :=
  .next (
    match s.secs[n].rstWait with
    | none => s
    | some cause =>
      if !s.isOn .core then s else
      let s := ((s.put (F.SEC_CTL_STATE n) 2).bump (F.SEC_STAT_RCNT n)).put (F.SEC_STAT_CAUSE n) cause
      let s := (s.recordSecReset n cause).onSec n SectorSt.afterReset
      let s := if cause = 5 then (s.put (F.SEC_CTL_IMG n) 0).onSec n fun x => { x with image := none } else s
      s.resetActions n)

/-- The reset actions complete at r + 63: causes 4 and 5 end STOPPED (05 R128). CORE has worked for the sector (07 Table NRG-1), and copies in
progress have gone on. -/
def execSectorResetComplete (n : Sector) (s : State) : Host.Outcome State Fault Refusal :=
  .next (
    if s.secs[n].rstBusy then
      let s := ((s.copyCycles 64).worked n 64).onSec n fun x => { x with rstBusy := false }
      (if s.get (F.SEC_STAT_CAUSE n) = 4 ∨ s.get (F.SEC_STAT_CAUSE n) = 5 then s.put (F.SEC_CTL_STATE n) 0 else s).settleW
    else s)

/-! ## Commands (05 Table SEC-2) -/

/-- SEC_CTL.CMD = START. -/
def State.cmdStart (s : State) (n : Sector) : State :=
  if s.stopped n then if s.isSet (F.SEC_CTL_IMG n) then s.setFlag (F.SEC_CTL_SPEND n) else s.setFlag (F.SEC_STAT_CREJ n)
  else if s.running n then s
  else s.setFlag (F.SEC_STAT_CREJ n)

/-- SEC_CTL.CMD = STOP. A triggered reset of cause 1 to 3 that has yet to begin takes cause 4. -/
def State.cmdStop (s : State) (n : Sector) : State :=
  if s.stopped n then s.put (F.SEC_CTL_SPEND n) 0
  else if s.running n then
    match s.secs[n].rstWait with
    | some c => if c ≤ 3 then s.onSec n fun x => { x with rstWait := some 4 } else s
    | none => s.triggerReset n 4
  else if s.get (F.SEC_STAT_CAUSE n) ≤ 3 then
    let s := s.put (F.SEC_STAT_CAUSE n) 4
    if s.secs[n].rstBusy then s else s.put (F.SEC_CTL_STATE n) 0
  else s

/-- SEC_CTL.CMD = RESET. -/
def State.cmdReset (s : State) (n : Sector) : State :=
  if s.stopped n then s.put (F.SEC_CTL_SPEND n) 0 else if s.running n then s.triggerReset n 3 else s

/-- SEC_CTL.CMD as written. -/
def State.sectorCmd (s : State) (n : Sector) (cmd : Nat) : State :=
  if cmd = 1 then s.cmdStart n else if cmd = 2 then s.cmdStop n else if cmd = 3 then s.cmdReset n else s

/-! ## Watchdogs (05 R123) -/

/-- A write of SEC_WDK commits. -/
def State.kick (s : State) (n : Sector) (v : Word) : State :=
  if v = 0x0A5A then s.onSec n fun x => { x with wdt := 0 } else s.bump (F.SEC_STAT_WKBAD n)

def execWatchdogKick (n : Sector) (v : Word) (s : State) : Host.Outcome State Fault Refusal := .next (s.kick n v)

/-- The count stands at the warning point: WARN × 256 ticks before LIM × 256, or at the first tick where that lies at or before zero. -/
def State.warnPoint (s : State) (n : Sector) : Bool :=
  let w := s.get (F.SEC_WDT_WARN n)
  let l := s.get (F.SEC_WDT_LIM n)
  s.running n && decide (l ≠ 0 ∧ w ≠ 0 ∧ s.secs[n].wdt = if w < l then (l - w) * 256 else 1)

def execWdgw (n : Sector) (s : State) : Host.Outcome State Fault Refusal :=
  .next (if s.warnPoint n then s.raise n 30 else s)

/-- The count has reached LIM × 256. -/
def State.watchdogDone (s : State) (n : Sector) : Bool :=
  let l := s.get (F.SEC_WDT_LIM n)
  s.running n && decide (l ≠ 0 ∧ l * 256 ≤ s.secs[n].wdt)

/-- The watchdog of a guest expires: a sector reset with cause WDG. -/
def execWatchdogExpiry (n : Sector) (s : State) : Host.Outcome State Fault Refusal :=
  .next (if n ≠ 0 ∧ s.watchdogDone n then s.triggerReset n 2 else s)

/-! ## Virtual lines (05 R122) -/

/-- An event that line k of sector n selects is set. -/
def State.lineActive (s : State) (n : Sector) (k : Nat) : Bool :=
  decide (s.word (A.SEC_EVL n) &&& s.word (A.SEC_VML n k) ≠ 0 ∨ s.word (A.SEC_EVH n) &&& s.word (A.SEC_VMH n k) ≠ 0)

/-- The EVENT frame of a rising line: one a frame. -/
def State.lineRises (s : State) (n : Sector) (k : Fin 4) : State :=
  if !s.isSet (F.SEC_VRT_NET n k) then s
  else if s.secs[n].lineSent[k] then s.bump (F.SEC_STAT_VNDROP n)
  else match s.lineFrame n k with
    | some t => t.onSec n fun x => { x with lineSent := x.lineSent.set k true }
    | none => s.bump (F.SEC_STAT_VNDROP n)

/-- A line follows its events and mask. -/
def State.settleLine (s : State) (n : Sector) (k : Fin 4) : State :=
  let now := s.lineActive n k
  let was := s.isSet (F.SEC_VRT_ACT n k)
  let s := s.put (F.SEC_VRT_ACT n k) (bit now)
  if now && !was then s.lineRises n k else s

def execVirtualLineChange (n : Sector) (k : Fin 4) (s : State) : Host.Outcome State Fault Refusal := .next (s.settleLine n k)

/-! ## Grants (05 R115, R116) -/

/-- Two runs of granules or descriptors, each as base and length, share one. -/
def runsMeet (b l b' l' : Nat) : Bool := decide (0 < l ∧ 0 < l' ∧ b < b' + l' ∧ b' < b + l)

/-- A value of a grant register of sector n would overlap another sector's exclusive resource, in force or pending, or exceed the range. -/
def State.grantClash (s : State) (n : Sector) (reg : Nat) (v : Word) : Bool :=
  let w := v.toNat
  let others (p : Sector → Bool) : Bool := sectors.any fun m => decide (m ≠ n) && p m
  match reg with
  | 1 =>
    let len (x : Nat) : Nat := if x / 1024 % 2 = 1 then (x / 32 % 32 + 1) * 256 else 0
    let base (x : Nat) : Nat := x % 32 * 256
    decide (w / 1024 % 2 = 1 ∧ 8192 < base w + len w) ||
      others fun m => let x := (s.word (A.SEC_IMEM m)).toNat; runsMeet (base w) (len w) (base x) (len x)
  | 2 =>
    decide (64 < w % 64 + w / 64 % 128) ||
      others fun m => let x := (s.word (A.SEC_WIN m)).toNat; runsMeet (w % 64) (w / 64 % 128) (x % 64) (x / 64 % 128)
  | 3 => others fun m => decide ((s.word (A.SEC_GRANT m) ||| s.secs[m].grant) &&& v &&& 0xF ≠ 0)
  | 4 => others fun m => decide ((s.word (A.SEC_GRANT2 m) ||| s.secs[m].grant2) &&& v &&& 0x1FE0 ≠ 0)
  | 5 =>
    decide (64 < w % 64 + w / 64 % 128) ||
      others fun m =>
        let x := (s.word (A.SEC_DESC m)).toNat
        let y := s.secs[m].desc.toNat
        runsMeet (w % 64) (w / 64 % 128) (x % 64) (x / 64 % 128) || runsMeet (w % 64) (w / 64 % 128) (y % 64) (y / 64 % 128)
  | _ => false

/-- A write of SEC_IMEM, SEC_WIN, SEC_GRANT, SEC_GRANT2 or SEC_DESC (register 1 to 5 of the block): rejected with GREJ, or taken; the
region and the window only while the sector is STOPPED. -/
def State.writeGrant (s : State) (n : Sector) (reg : Nat) (v : Word) : State :=
  if s.grantClash n reg v ∨ (reg ≤ 2 ∧ ¬ s.stopped n) then s.setFlag (F.SEC_STAT_GREJ n)
  else s.setWord (A.SEC_CTL n + reg) (writableBits (A.SEC_CTL n + reg) v)

/-- The GP pins. -/
def gps : List (Fin 8) := [0, 1, 2, 3, 4, 5, 6, 7]

/-- Frame-boundary step 3: pending grants take force; removed lanes are flushed, removed locks given up, removed GP pins become inputs, and
the targets that the votes now counted give meet the transitions in progress (06 R144, R150). -/
def State.applyGrants (s : State) : State :=
  let old := s.secs
  let s := sectors.foldl (fun s n => s.onSec n fun x =>
    { x with grant := s.word (A.SEC_GRANT n), grant2 := s.word (A.SEC_GRANT2 n), desc := s.word (A.SEC_DESC n) }) s
  let s := sectors.foldl (fun s n => lanes4.foldl (fun s i =>
    if old[n].grant.getLsbD i && !s.hasLane n i then s.flushLane i else s) s) s
  let s := s.settleLockGrants
  let s := sectors.foldl (fun s n => gps.foldl (fun s (g : Fin 8) =>
    if old[n].grant2.getLsbD (5 + g) && !s.hasGp n g then s.gpFunction g 0 else s) s) s
  s.retargetAll

/-! ## Ticks -/

/-- One tick of the watchdogs and lane-time counts (05 R123, R124). -/
def State.tickSectors (s : State) : State :=
  sectors.foldl (fun s n =>
    let k := (lanes4.filter fun i => s.hasLane n i && decide (2 ≤ s.lanes[i].mode)).length
    s.onSec n fun x => { x with wdt := if s.running n then x.wdt + 1 else x.wdt, laneTicks := x.laneTicks + k }) s

end Sys2Proof.Machine
end

