-- ==== Sys2Proof/Machine/RegRead.lean ====
section
/-! DEFINITION. Reading registers (18 R411 to R414, R448, 06 R139): resolution, what each register shows, the stale copies, reader rights. -/

namespace Sys2Proof.Machine

/-- The resolved address: the alias region, then bit 5 of a lane window (18 R411). -/
def resolve (a : BitVec 12) : Nat :=
  let x := if 0xC00 ≤ a.toNat then a.toNat % 1024 else a.toNat
  if 0x300 ≤ x ∧ x < 0x400 ∧ x / 32 % 2 = 1 then x - 32 else x

/-! ## What a register shows -/

/-- A sector named by an index. -/
def secIx (i : Nat) : Sector := ⟨i % 4, by omega⟩

/-- A lane named by an index. -/
def laneNo (i : Nat) : LaneId := ⟨i % 4, by omega⟩

/-- The domain is in a transition (06 R151); the rise of CORE is the wake sequence (06 Table PWR-6). -/
def State.inTransition (s : State) (d : Dom) : Bool := (s.dom d).moving.isSome || (decide (d = .core) && s.coreWakes)

/-- Two bits a domain in PWR_STATA to PWR_STATC: 00b in transition, else its state (06 Table PWR-10). -/
def State.powerWord (s : State) (k : Nat) : Word :=
  BitVec.ofNat 18 ((allDoms.map fun d =>
    let p := domVotePlace d
    if p.1 = k then (if s.inTransition d then 0 else (s.dom d).state.code) * 2 ^ p.2 else 0).sum)

/-- Pending requests by domain number (06 Table PWR-11). -/
def State.pendingBits (s : State) : Nat := (allDoms.map fun d => if (s.dom d).pend.isSome then 2 ^ (domIndex d).val else 0).sum

/-- LOADEST in units of 12.5 µA, truncated (06 Table PWR-14). -/
def State.loadField (s : State) : Nat := Nat.min 255 (s.loadEst * 2 / 25)

/-- SYS_RSTCAUSE and the reset stamps, from Thermos (16 Tables RST-8, RST-9). -/
def State.liveSys (s : State) (a : Nat) : Word :=
  if a = 0x019 then
    let w := s.thermosWord 1
    (w &&& 0x3F03F) ||| BitVec.ofNat 18 ((s.thermosWord 2).toNat % 64 * 64)
  else if a = 0x01A then s.thermosWord 3 else if a = 0x01B then s.thermosWord 4 else s.word a

/-- The power and clock registers that show the units themselves. -/
def State.livePower (s : State) (a : Nat) : Word :=
  if 0x050 ≤ a ∧ a < 0x053 then s.powerWord (a - 0x050)
  else if a = 0x053 then BitVec.ofNat 18 (s.pendingBits % 2 ^ 18)
  else if a = 0x054 then BitVec.ofNat 18 (s.pendingBits / 2 ^ 18)
  else if a = 0x060 then F.PWR_REGCTL_LOADEST.into (s.word a) s.loadField
  else if a = 0x074 then BitVec.ofNat 18 s.tick
  else if a = 0x075 then BitVec.ofNat 18 (s.tick / 2 ^ 18)
  else s.word a

/-- LANE_STRST: the entries held, none once the domain has reached OFF (09 R228, 18 R448). -/
def State.liveLane (s : State) (a : Nat) : Word :=
  let i := laneNo ((a - 0x300) / 64)
  if (a - 0x300) % 64 = 0x0F then
    (F.LANE_STRST_SCNT i).into (s.word a) (if (s.dom (.lane i)).state = .off then 0 else s.lanes[i].stream.length)
  else s.word a

/-- CRV_STAT and CAL_STAT (10 Tables CAL-10, CAL-11). -/
def State.liveCal (s : State) (a : Nat) : Word :=
  if a = 0x606 then
    let v := (List.range 8).foldl (fun v t => if (s.curveWord (0x800 + t)).toNat % 128 ≠ 0 ∧ s.tableValid t then v + 2 ^ t else v) 0
    F.CRV_STAT_UTV.into (F.CRV_STAT_UTLD.into (s.word a) (bit (s.lockHeld 15))) v
  else if a = 0x609 then
    let w := F.CAL_STAT_PSTORE.into (F.CAL_STAT_QCNT.into (s.word a) s.cal.queue.length) (bit s.cal.pstore.isSome)
    match s.cal.active with
    | some r => F.CAL_STAT_ACTSEC.into (F.CAL_STAT_ACTIVE.into w 1) r.sec.val
    | none => F.CAL_STAT_ACTSEC.into (F.CAL_STAT_ACTIVE.into w 0) 0
  else s.word a

/-- HST_STAT, HST_WDC and the violation-log view (13 Table HST-7, R316). -/
def State.liveHost (s : State) (a : Nat) : Word :=
  if a = 0x701 then
    let w := F.HST_STAT_STATE.into (s.word a) s.host.state
    if s.host.state = 0 then w
    else F.HST_STAT_SERVED.into (F.HST_STAT_SECT.into (F.HST_STAT_OP.into w s.host.txn.op) s.host.txn.sect.val) s.host.txn.served
  else if a = 0x703 then BitVec.ofNat 18 (s.host.silence / 1024 % 4096)
  else if 0x720 ≤ a ∧ a < 0x780 then s.thermosWord (0x60 + (a - 0x720))
  else s.word a

/-- The device pulls TWCLM low: it owns the claim, and VDDIO supplies the pin (14 R318, R327). -/
def State.drivesClaim (s : State) : Bool := s.isSet F.TW_STAT_CLMOWN && s.pins.vddio

/-- TW_STAT.CLMLINE and TW_INC (14 Table TWN-7). -/
def State.liveTwin (s : State) (a : Nat) : Word :=
  if a = 0x783 then F.TW_STAT_CLMLINE.into (s.word a) (bit (s.drivesClaim || s.tw.extLow))
  else if a = 0x784 then s.incarnation
  else s.word a

/-- The MAC address and the sequence registers (15 Tables NET-6, NET-7). -/
def State.liveNet (s : State) (a : Nat) : Word :=
  if 0xA03 ≤ a ∧ a < 0xA06 then BitVec.ofNat 18 (be16At s.mac (2 * (a - 0xA03)))
  else if 0xA10 ≤ a ∧ a < 0xA20 then
    let n := secIx (a % 8 / 2)
    let q := if a < 0xA18 then Nat.min s.net.txSeq[n] (2 ^ 32 - 1) else s.net.rxHigh[n]
    BitVec.ofNat 18 (if a % 2 = 0 then q / 65536 % 65536 else q % 65536)
  else s.word a

/-- The active flash operation as FL_STAT shows it: 0 none, 7 internal. -/
def State.flashAop (s : State) : Nat :=
  match s.mem.factive with
  | some o => if 6 ≤ o.op then 7 else o.op
  | none => 0

/-- MEM_MIRn, MEM_VLOG, the flash status and the key check values (12 Table MEM-10). -/
def State.liveMem (s : State) (a : Nat) : Word :=
  if 0xB04 ≤ a ∧ a < 0xB08 then (F.MEM_MIR_MIR (a - 0xB04)).into (s.word a) (s.mem.mirrored.toNat / 2 ^ (16 * (a - 0xB04)))
  else if a = 0xB0A then s.vlogWord
  else if a = 0xB20 then
    let w := F.FL_STAT_QCNT.into (F.FL_STAT_AOP.into (s.word a) s.flashAop) s.mem.fqueue.length
    let w := F.FL_STAT_ASEC.into w (match s.mem.factive with | some o => o.sec.val | none => 0)
    F.FL_STAT_RECL.into (F.FL_STAT_SUSP.into w (bit s.mem.fsusp.isSome)) 
      (bit (!s.mem.reclaims.isEmpty || s.flashHeld.any fun o => decide (o.op = 7)))
  else if a = 0xB21 then F.FL_PGSEL_SUSPECT.into (s.word a) (bit (decide (s.get F.FL_PGSEL_PAGE ∈ s.mem.suspect)))
  else if a = 0xB22 then BitVec.ofNat 18 (Nat.min (s.eraseCount (s.get F.FL_PGSEL_PAGE)) 0x3FFFF)
  else if 0xB34 ≤ a ∧ a < 0xB38 then s.kcvWord (a - 0xB34)
  else s.word a

/-- The word a register holds or shows. -/
def State.live (s : State) (a : Nat) : Word :=
  if a < 0x040 then s.liveSys a
  else if a < 0x0C0 then s.livePower a
  else if a < 0x300 then s.word a
  else if a < 0x400 then s.liveLane a
  else if a < 0x600 then s.word a
  else if a < 0x680 then s.liveCal a
  else if a < 0x700 then s.word a
  else if a < 0x780 then s.liveHost a
  else if a < 0x800 then s.liveTwin a
  else if a < 0xA00 then s.word a
  else if a < 0xB00 then s.liveNet a
  else s.liveMem a

/-! ## Stale copies (06 R139) -/

/-- The S bits of a register. -/
def RegRow.slowBits (r : RegRow) : Word := r.maskOf (·.slow)

/-- Addresses of the registers with an S field. -/
def slowAddrs : List Nat :=
  regMap.flatMap fun r => if r.fields.any (·.slow) then (instances r.dims).map (fun o => r.base + o.1) else []

/-- The copies take the values their registers hold at a rising slow-clock edge. -/
def State.refreshStale (s : State) : State :=
  { s with stale := slowAddrs.foldl (fun m a => storeWrite regPor m a (s.live a)) s.stale }

/-- What a permitted read returns: S fields from the stale copy, the others as they stand. -/
def State.shown (s : State) (a : Nat) (r : RegRow) : Word :=
  (s.live a &&& ~~~ r.slowBits) ||| (storeRead regPor s.stale a &&& r.slowBits)

/-! ## Rights (18 R414) -/

/-- The lock whose holder writes an output's status register (11 R270, 01 Table FRM-4): 10 + n for OUT_FSWn, 8 + n for OUT_AOSTn. -/
def outLock (base i : Nat) : Nat := if base = 0x680 then 10 + i else 8 + i

/-- An accessor is among those that an entry of the map's Write / Read column names, for instance `i` of a register. -/
def State.mayAs (s : State) (acc : Accessor) (w : Who) (base i : Nat) : Bool :=
  let n := acc.sector
  match w with
  | .all | .perField => true
  | .s0 => decide (n = 0)
  | .own => decide (n.val = i)
  | .ownS0 => decide (n.val = i) || decide (n = 0)
  | .gp => s.hasGp n i
  | .lane => s.hasLane n (laneNo i)
  | .laneS0 => s.hasLane n (laneNo i) || decide (n = 0)
  | .desc => s.hasDesc n i
  | .descS0 => s.hasDesc n i || decide (n = 0)
  | .lockHolder => s.holds n (outLock base i)
  | .hostOnly => !acc.isProg
  | .nobody => false

/-! ## Lane domains (18 R448) -/

/-- The lane whose domain holds a register: its window and its FIR banks. -/
def laneHolding (a : Nat) : Option LaneId :=
  if 0x300 ≤ a ∧ a < 0x400 then some (laneNo ((a - 0x300) / 64))
  else if 0x800 ≤ a ∧ a < 0xA00 then some (laneNo ((a - 0x800) / 128)) else none

/-- An access to the retained copy: a register, no reserved address, that lies in a lane domain that is not ON. -/
def State.isCopy (s : State) (a : Nat) : Bool :=
  match laneHolding a with
  | some i => !s.isOn (.lane i) && (regAt a).isSome
  | none => false

/-! ## Reads -/

/-- The outcome of a read: the word, whether it was denied, the state after it. -/
structure ReadOut where
  word : Word
  denied : Bool
  state : State
  deriving DecidableEq, Repr

/-- A read by rdr or RDREG (04 R100, 13 R306, 18 R412 to R414): reserved addresses and registers with no readable value give 0; CRV_PD,
MEM_THD and MEM_OTPD act. -/
def State.readReg (s : State) (acc : Accessor) (addr : BitVec 12) : ReadOut :=
  let a := resolve addr
  match regAt a with
  | none => ⟨0, false, s⟩
  | some (r, ix) =>
    if r.reader = .nobody then ⟨0, false, s⟩
    else if !s.mayAs acc r.reader r.base (ix.headD 0) then ⟨0, true, s.refused acc⟩
    else if a = A.CRV_PD then let o := s.readCurvePd acc; ⟨o.1, o.2.1, o.2.2⟩
    else if a = A.MEM_THD then let o := s.readThd; ⟨o.1, false, o.2⟩
    else if a = A.MEM_OTPD then let o := s.readOtpd; ⟨o.1, false, o.2⟩
    else ⟨s.shown a r, false, s⟩

end Sys2Proof.Machine
end

