-- ==== Sys2Proof/Machine/Energy.lean ====
section
/-! DEFINITION. The energy ledger, the store estimate and the thermal levels (07). Charges are counted in 2^-24 pC and energies in 2^-24 µJ
(07 R162: 24 bits below 1 pC and below 1 µJ). -/

namespace Sys2Proof.Machine

/-! ## Attribution (07 R165, R166) -/

/-- Cycles of a tick. -/
def tickCycles : Nat := 24414

/-- IEXC step currents in µA (08 Table AFE-12). -/
def iexcStep (k : Nat) : Nat := [10, 50, 100, 250, 500, 750, 1000, 1500].getD k 0

/-- Set currents of the enabled IEXC sources, µA. -/
def State.iexcTotal (s : State) : Nat :=
  ((List.range 4).map fun n => if s.isSet (F.IEXC_CTL_EN n) then iexcStep (s.get (F.IEXC_CTL_STEP n)) else 0).sum

/-- A domain's weight in its present state, hundredths of a µA; 0 when OFF or in transition (07 Table NRG-1, R166). `vexc` is the VEXC
current the excitation monitor reads, µA. While CORE is ON or wakes, its own weight stands for it and for IMEM and the banks. An
established link tells the amplitude of NET; without one AMP does, 2.4 Vpp where it allows that (notes/assumptions/12.md). -/
def State.domWeight (s : State) (vexc : Nat) (d : Dom) : Nat :=
  let x := s.dom d
  let coreUp := s.isOn .core || s.pwr.wake.any (·.core)
  if x.moving.isSome then 0 else
  match d, x.state with
  | _, .off => 0
  | .core, .ret => if coreUp then 0 else 2500
  | .core, .on => 0
  | .imem, .ret => 120
  | .imem, .on => if coreUp then 0 else 6000
  | .hb _, .ret => 35
  | .hb _, .on => if coreUp then 0 else 1500
  | .lane i, .on => ([900, 520, 280, 190, 150].getD (Nat.min s.pwr.mdiv[i] 4) 150) * 100
  | .lane _, .ret => 500
  | .exc, .on => (60 + s.iexcTotal + vexc) * 100
  | .exc, .ret => 0
  | .tia, .on => 15000
  | .tia, .ret => 0
  | .aout, .on => 40000
  | .aout, .ret => 0
  | .fsw, .on => 6000
  | .fsw, .ret => 0
  | .net, .on =>
    let high := if s.get F.NET_STAT_LINK = 3 then s.isSet F.NET_STAT_AMPA else decide (s.get F.NET_CTL_AMP = 1 ∨ s.get F.NET_CTL_AMP = 2)
    if high then 1400000 else 900000
  | .net, .ret => 3000
  | .twin, .on => 400000
  | .twin, .ret => 1500
  | .flash, .on => 30000 + (if s.flashWorking then 570000 else 0)
  | .flash, .ret => 0
  | .host, .on => 30000
  | .host, .ret => 200

/-- Add a weight, shared equally among its payers; a STOPPED payer's share goes to sector 0, as does a weight nobody pays. -/
def State.payBy (s : State) (acc : Vector Nat 4) (ps : List Sector) (w : Nat) : Vector Nat 4 :=
  let ps := if ps.isEmpty then [0] else ps
  ps.foldl (fun acc n =>
    let n := if s.stopped n then 0 else n
    acc.set n (acc[n] + w / ps.length)) acc

/-- A weight in hundredths of a µA shared among its payers, counted 12-fold so that the shares of up to four stay whole. -/
def State.shared (s : State) (ps : List Sector) (w : Nat) : Vector Nat 4 := s.payBy (Vector.replicate 4 0) ps (12 * w)

/-- The sectors that pay a domain under the vote rule (07 R166). -/
def State.votePayers (s : State) (d : Dom) : List Sector :=
  sectors.filter fun n => s.counts n d && match s.vote n d with
    | some v => decide ((s.dom d).state.rank ≤ v.rank)
    | none => false

/-- The sectors with a converting lane. -/
def State.convertingSectors (s : State) : List Sector :=
  sectors.filter fun n => lanes4.any fun i => s.hasLane n i && decide (1 < s.lanes[i].mode) && decide ((s.dom (.lane i)).state ≠ .ret)

/-- Who pays for a wake of the core: the sectors whose segments it is for, else the sectors whose reset it is for. DESIGN CHOICE
(notes/assumptions/12.md): a wake that serves segments of several sectors is paid by them in equal shares; the spec gives no split. -/
def State.wakePayers (s : State) (k : WakeSt) : List Sector :=
  if k.secs.isEmpty then sectors.filter fun n => s.secs[n].rstWait.isSome else k.secs

/-- The items of Table NRG-1 other than CORE as they stand: base, the PLL while CORE is not ON, and the domains, each weight shared among
its payers. -/
def State.itemWeights (s : State) (vexc : Nat) : List (Vector Nat 4) :=
  s.shared [0] (if s.isSet F.PWR_REGCTL_MODE then 12200 else 400) ::
    s.shared s.convertingSectors (if s.pwr.pll && !s.isOn .core then 45000 else 0) ::
    allDoms.map fun d => s.shared (s.votePayers d) (s.domWeight vexc d)

/-- CORE's weight outside the cycles counted for sectors: its wake is paid as `wakePayers` tells, all other ON time by sector 0. -/
def State.coreWeight (s : State) : Vector Nat 4 :=
  if s.isOn .core && (s.dom .core).moving.isNone then s.shared [0] 1600000
  else match s.pwr.wake with
    | some k => s.shared (s.wakePayers k) (if k.core then 1600000 else 0)
    | none => Vector.replicate 4 0

/-- `x` cycles of one weight and `y` of another. -/
def blend (x y : Nat) (a b : Vector Nat 4) : Vector Nat 4 := Vector.ofFn fun n => x * a[n] + y * b[n]

/-- An item's weight over `d` cycles that began with it at `a` and end with it at `b`: where the two differ, the parts are free
(notes/assumptions/12.md); between them a domain may be in transition, at weight 0. -/
def mixedWeight (draw item d : Nat) (a b : Vector Nat 4) : Vector Nat 4 :=
  if a = b then blend d 0 a b else
  let x := Config.tickPart draw (2 * item) % (d + 1)
  blend x (if 2 ≤ item then Config.tickPart draw (2 * item + 1) % (d - x + 1) else d - x) a b

/-- The weights of the tick that ends (07 R165): the cycles counted for each sector at CORE's weight, CORE's weight in the others, and every
other item over the whole tick. -/
def State.weights (s : State) (vexc : Nat) : Vector Nat 4 :=
  let now := s.itemWeights vexc
  let recorded := !s.ldg.openW.isEmpty
  let used := (s.secs.toList.map SectorSt.cycles).sum
  let z := sectors.foldl (fun z n => s.payBy z [n] (12 * 1600000 * s.secs[n].cycles)) (Vector.replicate 4 0)
  let z := blend 1 1 z (mixedWeight s.free 0 (tickCycles - used) (if recorded then s.ldg.openCore else s.coreWeight) s.coreWeight)
  ((if recorded then s.ldg.openW else now).zip now).zipIdx.foldl
    (fun z x => blend 1 1 z (mixedWeight s.free x.2 tickCycles x.1.1 x.1.2)) z

/-- The voltage that counts for a tick: clamped to ±64 mV (07 R164), in nV, with whether it was clamped. -/
def clampShunt (v : Int) : Int × Bool :=
  if v < -64000000 then (-64000000, true) else if 64000000 < v then (64000000, true) else (v, false)

/-- The offset that is subtracted: none with ZEN = 0 (07 R164). -/
def State.zeroOffset (s : State) : Int := if s.isSet F.LDG_CFG_ZEN then s.ldg.offset else 0

/-- Q_tick in 2^-24 pC: nV × 30.517578125 µs / mΩ = nV × 15625 / (512 × mΩ) pC, RSH held to 100 … 1000 mΩ (07 R162, Table NRG-4). -/
def State.chargeOf (s : State) (nv : Int) : Int :=
  (nv * 15625 * 2 ^ 15).fdiv (Nat.min (Nat.max (s.get F.LDG_CFG_RSH) 100) 1000)

/-- E of a charge at a mean VSYS in mV, 2^-24 µJ: 1 pC·mV is 10^-9 µJ. -/
def energyOf (q : Int) (mv : Nat) : Int := (q * mv).fdiv 1000000000

/-- A 36-bit quantity held in two registers. -/
def State.pair (s : State) (h l : Fld) : Nat := s.get h * 2 ^ 18 + s.get l

def State.putPair (s : State) (h l : Fld) (v : Nat) : State := (s.put h (v / 2 ^ 18)).put l v

/-- STORE loses energy, keeping the fraction below 1 mJ and stopping at 0 (07 R172). -/
def State.drainStore (s : State) (e : Int) : State :=
  let total : Int := (s.pair F.LDG_STOREH_STORE F.LDG_STOREL_STORE * (1000 * 2 ^ 24) + s.ldg.storeFrac : Nat)
  let left := (total - e).toNat
  let s := s.putPair F.LDG_STOREH_STORE F.LDG_STOREL_STORE (Nat.min (left / (1000 * 2 ^ 24)) (2 ^ 36 - 1))
  { s with ldg := { s.ldg with storeFrac := left % (1000 * 2 ^ 24) } }

/-- ETOT grows by an energy, wrapping at 2^36 µJ (07 Table NRG-5). -/
def State.growTotal (s : State) (e : Int) : State :=
  let total := ((s.ldg.etotFrac : Int) + e + (s.pair F.LDG_ETOTH_ETOT F.LDG_ETOTL_ETOT : Int) * 2 ^ 24).toNat
  let s := s.putPair F.LDG_ETOTH_ETOT F.LDG_ETOTL_ETOT (total / 2 ^ 24)
  { s with ldg := { s.ldg with etotFrac := total % 2 ^ 24 } }

/-- A post that has replaced STORE at this edge: the tick that ends at it is not subtracted (07 R172). -/
def State.postedNow (s : State) : Bool := decide (s.ldg.postedAt = some s.tick)

/-- What an interval gains from a tick of charge `q` and energy `e` at a mean VSYS of `mv`: sector n's share of each by weight (07 R165); a
tick with OVR or CRIT voids it (R170). -/
def Interval.gain (x : Interval) (ws : Vector Nat 4) (n : Sector) (q e : Int) (mv : Nat) (void : Bool) : Interval :=
  let total := ws[0] + ws[1] + ws[2] + ws[3]
  let share := (q * ws[n]).fdiv total
  { x with q := x.q + share, e := x.e + (e * ws[n]).fdiv total, qv := x.qv + share * mv, void := x.void || void }

/-- ETOT grows by a tick's energy and STORE loses it, where no post replaced STORE at the tick's edge (07 R172). -/
def State.spend (s : State) (e : Int) (posted : Bool) : State := if posted then s.growTotal e else (s.growTotal e).drainStore e

/-- CRIT is in force. -/
def State.inCrit (s : State) : Bool := decide (s.get F.THERM_STAT_LEVEL = 3)

/-- Attribute a tick's charge at a mean VSYS to the open intervals. -/
def State.attribute (s : State) (ws : Vector Nat 4) (q : Int) (mv : Nat) (ovr : Bool) : State :=
  let e := energyOf q mv
  let void := ovr || s.inCrit
  let iv := Vector.ofFn fun (n : Fin 4) =>
    let x := s.ldg.iv[n]
    if x.opened then x.gain ws n q e mv void else x
  ({ s with ldg := { s.ldg with iv := iv } }).spend e s.postedNow

/-- The waiting zeroing tick takes the mean charge of its neighbours (07 R164): it belongs to the intervals that it ended in, closed since
or not. -/
def State.attributeZero (s : State) (z : ZeroTick) (q : Int) : State :=
  let e := energyOf q z.mv
  let closing := Vector.ofFn fun (n : Fin 4) => s.ldg.closing[n].map fun c => { c with iv := c.iv.gain z.weights n q e z.mv z.crit }
  let iv := Vector.ofFn fun (n : Fin 4) =>
    let x := s.ldg.iv[n]
    if x.opened && !x.fresh then x.gain z.weights n q e z.mv z.crit else { x with fresh := false }
  ({ s with ldg := { s.ldg with iv := iv, closing := closing, zeroing := none } }).spend e z.posted

/-- A tick has closed and the next begins: its counts restart, and the weights stand recorded. -/
def State.newTick (s : State) (vexc : Nat) : State :=
  let (_, s) := s.fresh
  let s := sectors.foldl (fun s n => s.onSec n fun x => { x with cycles := 0 }) s
  { s with ldg := { s.ldg with
      closedAt := some s.tick, postedAt := none, openW := s.itemWeights vexc, openCore := s.coreWeight } }

/-- What the ledger and the thermal sampler leave at an edge stands latched for the boundary of the next (01 R25, 07 R174, R181), and the
stale copies show it. -/
def State.latchLedger (s : State) : State :=
  ({ s with sch := { s.sch with latch := { s.sch.latch with
      level := s.get F.THERM_STAT_LEVEL, storeH := s.word A.LDG_STOREH, storeL := s.word A.LDG_STOREL } } }).refreshStale

/-- The ledger shorts its inputs for the tick in progress and takes the measured offset, in nV, off later ticks (07 R164). In any other tick,
and with ZEN = 0, nothing happens. -/
def execLedgerZero (offset : Int) (s : State) : Host.Outcome State Fault Refusal :=
  .next (if s.isSet F.LDG_CFG_ZEN ∧ s.ldg.zeroNow then { s with ldg := { s.ldg with offset := offset } } else s)

/-- A tick begins at this edge: with ZEN = 1 one in 1024 is a zeroing tick (07 R164). DESIGN CHOICE (notes/assumptions/84.md): it is the tick
that begins where CLK_TICK is a multiple of 1024. -/
def State.beginTick (s : State) : State :=
  { s with ldg := { s.ldg with zeroNow := s.isSet F.LDG_CFG_ZEN && decide (s.tick % 1024 = 0) } }

/-! ## The store estimate (07 R171 to R173) -/

/-- A STOREH write is staged; a later one replaces it. -/
def State.stageStore (s : State) (v : Word) : State := { s with ldg := { s.ldg with staged := some v } }

/-- A STOREL write commits the store with the staged high half, or the high half unchanged; the fraction becomes 0 and the post age
restarts, which ends STALE. -/
def State.postStore (s : State) (v : Word) : State :=
  let s := match s.ldg.staged with
    | some h => s.put F.LDG_STOREH_STORE h.toNat
    | none => s
  let s := (s.put F.LDG_STOREL_STORE v.toNat).put F.LDG_STAT_STALE 0
  let early := decide (s.ldg.closedAt ≠ some s.tick)
  { s with ldg := { s.ldg with staged := none, storeFrac := 0, postAge := 0, postedAt := if early then some s.tick else none } }

def execStorePost (v : Word) (s : State) : Host.Outcome State Fault Refusal := .next (s.postStore v).latchLedger

/-- The post age has reached the limit; with STMAX = 0 the check is disabled. -/
def State.postStale (s : State) : Bool :=
  decide (s.get F.LDG_TMAX_STMAX ≠ 0 ∧ s.get F.LDG_TMAX_STMAX * 2 ^ 21 ≤ s.ldg.postAge)

/-- STALE follows the post age: it sets when the age reaches STMAX × 2^21 ticks; STMAX = 0 clears it (07 R173). -/
def State.settleStale (s : State) : State :=
  s.put F.LDG_STAT_STALE (bit s.postStale)

/-- The post age has reached the limit and STALE sets (07 R173). -/
def execStale (s : State) : Host.Outcome State Fault Refusal := .next (if s.postStale then s.setFlag F.LDG_STAT_STALE else s)

/-! ## Thermal levels (07 R175 to R178) -/

/-- Entry thresholds of levels 0 to 3 in 0.125 °C (07 Table NRG-2). -/
def thermEnter (l : Nat) : Int := [-32768, 880, 960, 1040].getD l 32767

/-- Leave thresholds of levels 0 to 3 in 0.125 °C. -/
def thermLeave (l : Nat) : Int := [-32768, 848, 928, 1008].getD l 32767

/-- The highest level whose threshold the temperature meets. -/
def levelFor (th : Nat → Int) (t : Int) : Nat :=
  if th 3 ≤ t then 3 else if th 2 ≤ t then 2 else if th 1 ≤ t then 1 else 0

/-- A run in one direction is broken before 8 (07 R177). -/
def State.breakRun (s : State) : State :=
  if s.get F.THERM_CHAT_DWELL = 0 then s else s.bump F.THERM_CHAT_CHAT

/-- The level that a sample leads to, with the dwell run it leaves: none while the level stays (07 R176). -/
def State.thermalStep (s : State) (t : Int) : State × Option Nat :=
  let lv := s.get F.THERM_STAT_LEVEL
  let up := levelFor thermEnter t
  let down := levelFor thermLeave t
  let clear (s : State) : State := ({ s with ldg := { s.ldg with run := none } }).put F.THERM_CHAT_DWELL 0
  let count (s : State) (dir : Bool) (cand : Nat) : State × Option Nat :=
    let s := if s.ldg.run = some (!dir) then clear s.breakRun else s
    let k := s.get F.THERM_CHAT_DWELL + 1
    if 8 ≤ k then (clear s, some cand)
    else (({ s with ldg := { s.ldg with run := some dir } }).put F.THERM_CHAT_DWELL k, none)
  if up = 3 ∧ lv < 3 then (clear (if s.ldg.run = some false then s.breakRun else s), some 3)
  else if lv < up then count s true up
  else if down < lv then count s false down
  else (clear s.breakRun, none)

end Sys2Proof.Machine
end

