-- ==== Sys2Proof/Machine/Image.lean ====
section
/-! DEFINITION. Thiub images: layout, load-time checks, loading (02 R33 to R37, 12 R278). -/

namespace Sys2Proof.Machine

/-! ## Layout (02 Tables CON-1 to CON-4) -/

/-- A big-endian field of k bytes at an offset, cut to `w` bits. -/
def fieldAt (l : List Byte) (ofs k w : Nat) : Nat := beNat ((l.drop ofs).take k) % 2 ^ w

/-- NFRM, and the tiers present as a list. -/
def imageTiers (l : List Byte) : List Nat := (List.range 4).filter fun t => byteAt l 7 / 2 ^ t % 2 == 1

/-- E, the number of tier entries. -/
def imageE (l : List Byte) : Nat := byteAt l 8 * (imageTiers l).length

def imageNseg (l : List Byte) : Nat := byteAt l 13

def imageNslot (l : List Byte) : Nat := byteAt l 9

def imageNbun (l : List Byte) : Nat := be16At l 10

def imageCmac (l : List Byte) : Bool := decide (128 ≤ byteAt l 6)

def imageLen (l : List Byte) : Nat := fieldAt l 16 4 32

/-- Where the parts begin. -/
def entryAt (i : Nat) : Nat := 32 + 16 * i
def segAt (l : List Byte) (i : Nat) : Nat := 32 + 16 * imageE l + 12 * i
def slotAt (l : List Byte) (i : Nat) : Nat := segAt l (imageNseg l) + 8 * i
def bundleAt (l : List Byte) (i : Nat) : Nat := slotAt l (imageNslot l) + 10 * i

/-- An open-slot record with the segment it names. -/
def slotRec (l : List Byte) (i : Nat) : Nat × OpenSlot :=
  let a := slotAt l i
  (byteAt l a, ⟨byteAt l (a + 1) % 128, fieldAt l (a + 2) 3 18, fieldAt l (a + 5) 3 18⟩)

/-- A segment record with its slots. -/
def segRec (l : List Byte) (i : Nat) : SegRec :=
  let a := segAt l i
  { start := fieldAt l a 3 18, entry := fieldAt l (a + 3) 2 13, dcyc := fieldAt l (a + 5) 3 18, qseg := fieldAt l (a + 8) 4 32,
    slots := ((List.range (imageNslot l)).map (slotRec l)).filterMap fun r => if r.1 = i then some r.2 else none }

/-- A tier entry with its segments. -/
def tierEntry (l : List Byte) (i : Nat) : TierEntry :=
  let a := entryAt i
  { frame := byteAt l a / 16 % 8, tier := byteAt l a % 4, selev := byteAt l (a + 2), cyc := fieldAt l (a + 6) 4 32,
    qdecl := fieldAt l (a + 10) 5 36,
    segs := (List.range (byteAt l (a + 1))).map fun k => segRec l (byteAt l (a + 3) + k) }

/-- The image's tables. -/
def parseImage (l : List Byte) : Image :=
  { tiers := byteAt l 7 % 16, nfrm := byteAt l 8, nbun := imageNbun l, wgran := byteAt l 12,
    mirror := BitVec.ofNat 64 (fieldAt l 24 8 64), entries := (List.range (imageE l)).map (tierEntry l) }

/-- Bundle i as stored. -/
def imageBundle (l : List Byte) (i : Nat) : Bundle := BitVec.ofNat 80 (fieldAt l (bundleAt l i) 10 80)

/-! ## Checks (02 Table CON-6) -/

/-- End tick of a segment (02 R37). -/
def SegRec.endTick (g : SegRec) : Nat := g.start + (68 + g.dcyc + 24413) / 24414

/-- The image without its tag, CRC bytes taken as zero. -/
def crcBytes (l : List Byte) : List Byte :=
  let n := imageLen l - (if imageCmac l then 16 else 0)
  l.take 20 ++ [0, 0, 0, 0] ++ (l.take n).drop 24

/-- Check 05h: the tag the policy requires. -/
def State.tagOk (s : State) (n : Sector) (l : List Byte) : Bool :=
  let k := s.boot.policy.ksel / 4 ^ n.val % 4
  if imageCmac l then
    s.keyLocked k && decide (aesCmac (s.otpKey k) (l.take (imageLen l - 16)) = (l.drop (imageLen l - 16)).take 16)
  else s.boot.policy.cmacreq / 2 ^ n.val % 2 == 0

/-- Check 08h: position by position, each ID names the frame and tier it should. -/
def idsInOrder (l : List Byte) : Bool :=
  let ids := (List.range (byteAt l 8)).flatMap fun f => (imageTiers l).map fun t => 16 * f + t
  decide ((List.range (imageE l)).map (fun i => byteAt l (entryAt i)) = ids)

/-- Check 09h: the T0 entry of a frame 1 to 7 names an event the sector has. -/
def selevOk (n : Sector) (e : TierEntry) : Bool :=
  decide (e.frame = 0 ∨ e.tier ≠ 0 ∨ e.selev < 128) || decide (¬ (n = 0 ∧ e.selev % 32 = 31))

/-- Adjacent members of a list satisfy `p`. -/
def pairwiseNext {α : Type} (p : α → α → Bool) : List α → Bool
  | a :: b :: l => p a b && pairwiseNext p (b :: l)
  | _ => true

/-- Check 0Ah for a segment record, whether an entry names it or not. -/
def recordOk (l : List Byte) (g : SegRec) : Bool := decide (g.dcyc ≠ 0 ∧ g.entry < imageNbun l)

/-- Check 0Ah for entry i. -/
def segmentsOk (l : List Byte) (i : Nat) (e : TierEntry) : Bool :=
  let a := entryAt i
  let ns := byteAt l (a + 1)
  decide (1 ≤ ns ∧ ns ≤ 16 ∧ byteAt l (a + 3) + ns ≤ imageNseg l) &&
    pairwiseNext (fun x y => decide (x.start < y.start ∧ x.endTick ≤ y.start)) e.segs &&
    match e.segs with
    | g :: _ => decide (fieldAt l (a + 4) 2 13 = g.entry)
    | [] => false

/-- Check 0Ch: the tiers of one frame start alike. -/
def firstOk (es : List TierEntry) : Bool :=
  es.all fun e => es.all fun e' => decide (e.frame ≠ e'.frame) ||
    decide ((e.segs.map (·.start)).head? = (e'.segs.map (·.start)).head?)

/-- Check 0Dh for the slots of one segment. -/
def slotsOk (g : SegRec) : Bool :=
  decide (g.slots.length ≤ 8) &&
    g.slots.all (fun o => decide (o.svc ≠ 0 ∧ 64 ≤ o.slen ∧ o.tail + 16 ≤ o.slen ∧ o.ofs ≠ 0 ∧ o.ofs + o.slen ≤ g.dcyc)) &&
    pairwiseNext (fun x y => decide (x.ofs + x.slen ≤ y.ofs)) g.slots

/-- Check 0Eh for an entry. -/
def chargeOk (e : TierEntry) : Bool :=
  decide (e.cyc = (e.segs.map (·.dcyc)).sum ∧ (e.segs.map (·.qseg)).sum ≤ e.qdecl)

/-- Bundles of a sector's instruction-memory region: none with IEN = 0. -/
def State.regionLength (s : State) (n : Sector) : Nat :=
  if s.isSet (F.SEC_IMEM_IEN n) then (s.get (F.SEC_IMEM_ILEN n) + 1) * 256 else 0

/-- The code of the first check that fails, 0 when all pass; `len` is the transfer length. -/
def State.checkImage (s : State) (n : Sector) (l : List Byte) (len : Nat) : Nat :=
  let im := parseImage l
  let segs := (List.range (imageNseg l)).map (segRec l)
  if l.take 4 ≠ [0x59, 0x54, 0x48, 0x42] then 1
  else if byteAt l 4 ≠ 1 ∨ byteAt l 6 / 4 % 32 ≠ 0 ∨ byteAt l 7 / 16 ≠ 0 ∨ be16At l 14 ≠ 0 then 2
  else if imageLen l ≠ bundleAt l (imageNbun l) + (if imageCmac l then 16 else 0) ∨ len ≠ imageLen l then 3
  else if (crc32 (crcBytes l)).toNat ≠ fieldAt l 20 4 32 then 4
  else if !s.tagOk n l then 5
  else if byteAt l 5 ≠ 1 then 6
  else if byteAt l 6 % 4 ≠ n ∨ !s.stopped n then 7
  else if byteAt l 7 % 2 = 0 ∨ (1 ≤ byteAt l 8 ∧ byteAt l 8 ≤ 8 ∧ !idsInOrder l) then 8
  else if byteAt l 8 = 0 ∨ 8 < byteAt l 8 ∨ !im.entries.all (selevOk n) then 9
  else if !(im.entries.zipIdx.all fun e => segmentsOk l e.2 e.1) ∨ !segs.all (recordOk l) then 0xA
  else if segs.any fun g => decide (s.get F.SCH_FRAME_PERIOD < g.endTick + 4) then 0xB
  else if !firstOk im.entries then 0xC
  else if 64 < imageNslot l ∨ !segs.all slotsOk ∨
      (List.range (imageNslot l)).any (fun i => decide (imageNseg l ≤ (slotRec l i).1)) then 0xD
  else if !im.entries.all chargeOk then 0xE
  else if im.wgran = 0 ∨ s.get (F.SEC_WIN_GLEN n) < im.wgran then 0xF
  else if s.regionLength n < im.nbun then 0x10
  else if (List.range im.nbun).any fun i => byteAt l (bundleAt l i) % 2 == 1 then 0x11
  else 0

/-! ## Loading (02 R36, 12 R278) -/

/-- Write bundles from an instruction-memory address on, with fresh check bits. -/
def State.writeBundles (s : State) (a : Nat) (l : List Bundle) : State :=
  let inRun (k : Nat) : Bool := decide (a ≤ k ∧ k < a + l.length)
  { s with eng := { s.eng with
      imem := storeWriteRun (fun _ => 0) s.eng.imem a l
      imemUpset := s.eng.imemUpset.filter (fun c => !inRun c.1)
      imemFix := s.eng.imemFix.filter fun k => !inRun k } }

/-- The mirror flags of a sector's granules follow the header's MIRROR. -/
def State.setMirror (s : State) (n : Sector) (m : BitVec 64) : State :=
  let b := s.get (F.SEC_WIN_GBASE n)
  let g := s.get (F.SEC_WIN_GLEN n)
  let own : BitVec 64 := BitVec.ofNat 64 ((2 ^ g - 1) * 2 ^ b)
  { s with mem := { s.mem with mirrored := (s.mem.mirrored &&& ~~~ own) ||| ((m <<< b) &&& own) } }

/-- SCH_LDST holds the outcome of a load. -/
def State.loadOutcome (s : State) (n : Sector) (code ictv : Nat) : State :=
  ((s.put F.SCH_LDST_SECT n).put F.SCH_LDST_CODE code).put F.SCH_LDST_ICTV ictv

/-- An image offered for sector n: accepted whole, or rejected with the code of the first check that fails. -/
def State.loadImage (s : State) (n : Sector) (l : List Byte) (len : Nat) : State :=
  let code := s.checkImage n l len
  let s := s.loadOutcome n code (byteAt l 5)
  if code ≠ 0 then s else
  let im := parseImage l
  let s := s.writeBundles (s.get (F.SEC_IMEM_IBASE n) * 256) ((List.range im.nbun).map (imageBundle l))
  let s := (s.setMirror n im.mirror).put (F.SEC_CTL_IMG n) 1
  s.onSec n fun x => { x with image := some im }

/-- An image offered for sector n with all its bytes. -/
def execImageLoad (n : Sector) (l : List Byte) (s : State) : Host.Outcome State Fault Refusal := .next (s.loadImage n l l.length)

/-- Every segment of every loaded image ends before the guard band of a period (01 Table FRM-5). -/
def State.periodFits (s : State) (p : Nat) : Bool :=
  sectors.all fun n => !s.isSet (F.SEC_CTL_IMG n) || match s.secs[n].image with
    | some im => im.entries.all fun e => e.segs.all fun g => decide (g.endTick + 4 ≤ p)
    | none => true

end Sys2Proof.Machine
end

