-- ==== Sys2Proof/Machine/Thermal.lean ====
section
/-! DEFINITION. Thermal levels at work, metering intervals, the ledger tier and tier choice (07 R167 to R179). -/

namespace Sys2Proof.Machine

/-! ## Thermal level (07 R175 to R178) -/

/-- A segment skipped in CRIT. -/
def State.critSkip (s : State) (n : Sector) (g : SegRec) : State := (s.bump F.THERM_SKIP_SKIP).dropCharge n g.qseg

/-- The open intervals are void (07 R170). -/
def State.voidIntervals (s : State) : State :=
  { s with ldg := { s.ldg with iv := s.ldg.iv.map fun x => { x with void := x.void || x.opened } } }

/-- Entry to CRIT: the running segment is force-ended with no breach and its WAIT not applied, waiting ones are skipped, outputs take their
dispositions, and CORE goes OFF after the drain. -/
def State.enterCrit (s : State) : State :=
  let s := ((s.bump F.THERM_CHAT_CRITCNT).log 6 0 0 1 (s.get F.THERM_STAT_TEMP)).voidIntervals
  let s := match s.eng.cur with
    | some g => ({ s with eng := { s.eng with cur := none, drain := some g.sec } }).onSec g.sec fun x => { x with latch := none }
    | none => s
  let ws := s.eng.waiting
  let s := { s with eng := { s.eng with waiting := [] } }
  let s := ws.foldl (fun s w => match s.segOf w.sec w.frame w.tier w.idx with
    | some g => s.critSkip w.sec g
    | none => s) s
  let s := { s with pwr := { s.pwr with awake := s.pwr.awake.filter fun n => decide (s.eng.drain = some n) } }
  s.disposeAll.settleW

/-- The die temperature as sampled, in 0.125 °C, and the level it leads to. -/
def State.sampleThermal (s : State) (t : BitVec 12) : State :=
  let r := (s.put F.THERM_STAT_TEMP t.toNat).settleCalStale.thermalStep t.toInt
  match r.2 with
  | none => r.1
  | some l =>
    let s := r.1.put F.THERM_STAT_LEVEL l
    if l = 3 then s.enterCrit else s

/-- The sampler converts at edges where CLK_TICK is a multiple of 32, and at no other (07 R175). -/
def execThermalSample (t : BitVec 12) (s : State) : Host.Outcome State Fault Refusal :=
  .next (if s.tick % 32 = 0 then (s.sampleThermal t).latchLedger else s)

/-! ## Metering intervals (07 R167 to R170) -/

/-- Divergence in 0.1 %, rounded half away from zero and saturated. -/
def divergence (q : Int) (decl : Nat) : Int :=
  let d := roundDiv ((q - decl * 2 ^ 24) * 1000) (decl * 2 ^ 24)
  if d < -1023 then -1023 else if 1023 < d then 1023 else d

/-- The charge declared for the interval that closes. -/
def State.declared (s : State) (n : Sector) : Nat :=
  match s.tierOf n s.secs[n].frame s.secs[n].tier with
  | some e => e.qdecl - s.secs[n].qCancelled
  | none => 0

/-- A closed interval of sector n is reconciled against its declaration: DIV, LOWCNT and the ENERGY breach. -/
def State.reconcile (s : State) (n : Sector) (c : Closing) : State :=
  let d := divergence c.iv.q c.decl
  let tol : Int := Nat.max 10 (s.get F.LDG_TOL_TOL)
  let s := (s.put (F.LDG_REC_DIV n) (BitVec.ofInt 11 d).toNat).put (F.LDG_REC_VOID n) 0
  if tol < d then s.breach n 6 c.tier c.frame (Nat.min d.natAbs 1023)
  else if d < -tol then s.bump (F.LDG_REC_LOWCNT n) else s

/-- The energy and mean VSYS of a closed interval of sector n are shown, and it is void or reconciled. -/
def State.settleInterval (s : State) (n : Sector) (c : Closing) : State :=
  let s := s.putPair (F.LDG_EH_E n) (F.LDG_EL_E n) ((c.iv.e.tdiv (2 ^ 24)).emod (2 ^ 36)).toNat
  let s := if c.iv.q = 0 then s else
    let s := s.put (F.LDG_VAVG_VAVG n) (c.iv.qv.tdiv c.iv.q).toNat
    if n = 0 then { s with ldg := { s.ldg with vavgKnown := true } } else s
  if c.iv.void ∨ c.decl = 0 then (s.setFlag (F.LDG_REC_VOID n)).put (F.LDG_REC_DIV n) 0 else s.reconcile n c

/-- The interval of sector n closes. While the charge of a zeroing tick in it is not known, it is settled with that tick
(notes/assumptions/85.md). -/
def State.closeInterval (s : State) (n : Sector) : State :=
  let iv := s.ldg.iv[n]
  if !iv.opened then s else
  let c : Closing := ⟨iv, s.declared n, s.secs[n].tier, s.secs[n].frame⟩
  let s : State := { s with ldg := { s.ldg with iv := s.ldg.iv.set n {} } }
  if s.ldg.zeroing.isSome then { s with ldg := { s.ldg with closing := s.ldg.closing.set n (some c) } } else s.settleInterval n c

/-- An interval opens. -/
def State.openInterval (s : State) (n : Sector) : State :=
  { s with ldg := { s.ldg with iv := s.ldg.iv.set n { opened := true, void := s.inCrit, fresh := s.ldg.zeroing.isSome } } }

/-- A reset that a closed interval calls for wakes the core. -/
def State.wakeForReset (s : State) : State :=
  if sectors.any (fun n => s.secs[n].rstWait.isSome) && !s.isOn .core then s.startWake 9 [] else s

/-- The intervals that waited for a zeroing tick are settled. -/
def State.settleClosing (s : State) : State :=
  let cs := s.ldg.closing
  let s := sectors.foldl (fun s n => match cs[n] with
    | some c => s.settleInterval n c
    | none => s) { s with ldg := { s.ldg with closing := Vector.replicate 4 none } }
  s.wakeForReset

/-- The ledger closes a tick (07 R162 to R165): `shunt` is the mean of V(ISNSP − ISNSN) in nV, `vsys` the mean VSYS in mV, `vexc` the VEXC
current in µA. A voltage beyond ±64 mV clamps, with OVR, before the offset is subtracted. A zeroing tick waits for its later neighbour
and then takes the mean of the two. -/
def execLedgerTickClose (shunt : Int) (vsys vexc : Nat) (s : State) : Host.Outcome State Fault Refusal :=
  let s := { s with ldg := { s.ldg with vsysLow := decide (vsys < 3000) } }
  let ws := s.weights vexc
  if s.ldg.zeroNow then
    let z : ZeroTick := ⟨vsys, ws, s.inCrit, s.postedNow⟩
    .next (({ s with ldg := { s.ldg with zeroNow := false, zeroing := some z } }).newTick vexc).latchLedger
  else
    let c := clampShunt shunt
    let q := s.chargeOf (c.1 - s.zeroOffset)
    let s := if c.2 then s.setFlag F.LDG_STAT_OVR else s
    let s := match s.ldg.zeroing with
      | some z => (s.attributeZero z ((s.ldg.lastQ + q).fdiv 2)).settleClosing
      | none => s
    let s := s.attribute ws q vsys c.2
    .next (({ s with ldg := { s.ldg with lastQ := q } }).newTick vexc).latchLedger

/-! ## The ledger tier (07 R174) -/

/-- The highest tier whose threshold, in kJ, the store as latched at the edge before meets. -/
def State.tierFor (s : State) (add : Nat) : Nat :=
  let st := s.sch.latch.storeH.toNat * 2 ^ 18 + s.sch.latch.storeL.toNat
  let meets (k : Nat) : Bool := decide ((s.get (F.LDG_TTH_TTH (k - 1)) + add) * 1000000 ≤ st)
  if meets 3 then 3 else if meets 2 then 2 else if meets 1 then 1 else 0

/-- L follows STORE. DESIGN CHOICE (notes/assumptions/86.md): TORD, which the spec only says sets, is rewritten at every boundary, and so
clears once the thresholds ascend. -/
def State.settleTier (s : State) : State :=
  let t (k : Nat) : Nat := s.get (F.LDG_TTH_TTH k)
  let s := s.put F.LDG_STAT_TORD (bit (decide (t 1 < t 0 ∨ t 2 < t 1)))
  let l := s.get F.LDG_STAT_L
  let down := s.tierFor 0
  let up := s.tierFor (s.get F.LDG_THYS_HYS)
  if down < l then s.put F.LDG_STAT_L down else if l < up then s.put F.LDG_STAT_L up else s

/-! ## Tier choice (07 R179, 02 R38) -/

/-- The highest tier present that does not exceed t. -/
def Image.resolve (im : Image) (t : Nat) : Nat :=
  ((List.range 4).filter fun k => decide (k ≤ t) && im.tiers / 2 ^ k % 2 == 1).foldl Nat.max 0

/-- Tier cap of a thermal level. DESIGN CHOICE (notes/assumptions/87.md): Table NRG-2 gives none for CRIT, in which no segment runs; the
model takes T0. -/
def thermalCap (l : Nat) : Nat := [3, 2, 0, 0].getD l 0

/-- Step 6: lower tiers until the declared energy fits EQ. -/
def State.fitEnergy (s : State) (n : Sector) (frame : Nat) (im : Image) : Nat → Nat → Nat
  | 0, t => t
  | k + 1, t =>
    let eq := s.get (F.SEC_EQ_EQ n)
    let mv := if s.ldg.vavgKnown then s.get (F.LDG_VAVG_VAVG 0) else 3300
    let q := match s.tierOf n frame t with
      | some e => e.qdecl
      | none => 0
    if t = 0 ∨ eq = 0 ∨ q * mv ≤ eq * 1000000000 then t else s.fitEnergy n frame im k (im.resolve (t - 1))

/-- The tier of a running sector, and the reference for TCAP (07 Table NRG-3). -/
def State.chooseTier (s : State) (n : Sector) (frame : Nat) (im : Image) : Nat × Nat :=
  let t := Nat.min (s.get F.LDG_STAT_L) (s.get F.LDG_TMAX_TMAX / 4 ^ n.val % 4)
  let t := if s.isSet F.LDG_STAT_STALE then Nat.min t 1 else t
  let r := im.resolve t
  let t := Nat.min t (thermalCap s.ldg.latched)
  let t := if s.get (F.SCH_BST_CAPLEFT n) ≠ 0 then 0 else t
  (s.fitEnergy n frame im 4 (im.resolve t), r)

/-- The frame selected by the sector's events as latched at the edge before (01 R25, 03 R76). -/
def State.chooseFrame (s : State) (n : Sector) (im : Image) : Nat :=
  match im.entries.find? fun e => decide (e.frame ≠ 0 ∧ e.tier = 0 ∧ 128 ≤ e.selev) && s.sch.latch.events[n].testBit (e.selev % 32) with
  | some e => e.frame
  | none => 0

end Sys2Proof.Machine
end

