-- ==== Sys2Proof/Machine/Schedule.lean ====
section
/-! DEFINITION. The frame scheduler: boundaries, SYNC, wake alarms, anchors, late starts, the prologue, overruns (01 R14 to R29, 02 R45). -/

namespace Sys2Proof.Machine

/-! ## Frame boundary (01 Table FRM-10) -/

/-- Each count of the frame that ends is shown and restarts (02 R42, R48, 05 R122, R124). -/
def State.restartCounts (s : State) : State :=
  let s := sectors.foldl (fun s n =>
    let x := s.secs[n]
    let s := (s.put (F.SCH_SLOT_USED n) (Nat.min x.used 0x3FFFF)).put (F.SEC_LTUSED_USED n) (Nat.min x.laneTicks 0x3FFFF)
    s.onSec n fun x => { x with used := 0, laneTicks := 0, hostWords := 0, logged := [], acted := false, lineSent := Vector.replicate 4 false }) s
  ({ s with host := { s.host with logged := [] } }).onNet fun m => { m with logged := [] }

/-- Step 1: intervals close where the skip counter is 0 or the sector does not run; a reset that ENERGY calls for wakes the core. -/
def State.stepMeter (s : State) : State :=
  (sectors.foldl (fun s n => if s.secs[n].skipLeft = 0 || !s.running n then s.closeInterval n else s) s).wakeForReset

/-- Step 2: the thermal level, as it stood at the edge before, is latched. -/
def State.stepThermal (s : State) : State :=
  let l := s.sch.latch.level
  if l = s.ldg.latched then s else ({ s with ldg := { s.ldg with latched := l } }).raiseWhere (fun _ => true) 28

/-- A posted PERIOD takes force, unless an image loaded since does not fit it. -/
def State.takePeriod (s : State) : State :=
  match s.sch.periodPend with
  | none => s
  | some p =>
    let s := { s with sch := { s.sch with periodPend := none } }
    if s.periodFits p then s.put F.SCH_FRAME_PERIOD p else s.setFlag F.SCH_SYNC_PREJ

/-- Step 3: PERIOD, MODE, BACT, OVGR and grants take force; SYNC is driven or evaluated; a STOPPED sector's W votes are its requests. -/
def State.stepPending (s : State) : State :=
  let s := if s.sch.started ∧ s.sch.mode = 2 ∧ s.sch.syncAt.isNone then s.bump F.SCH_SYNC_MISS else s
  let s := s.takePeriod
  let m := s.get F.SCH_SYNC_MODE % 3
  let s := { s with sch := { s.sch with mode := m, syncAt := none, syncOut := decide (m = 1),
                                         bact := s.word A.SCH_BACT, ovgr := s.word A.SCH_OVGR } }
  let s := s.applyGrants
  sectors.foldl (fun s n =>
    if s.stopped n then { s with pwr := { s.pwr with votes := s.pwr.votes.set n (s.requests n) } } else s) s

/-- A reset for causes 1 to 3 ends in RUNNING at the next boundary (05 R117). -/
def State.restarting (s : State) (n : Sector) : Bool := decide (s.get (F.SEC_CTL_STATE n) = 2 ∧ s.get (F.SEC_STAT_CAUSE n) ≤ 3)

/-- Step 4 for one sector: a pending start or the end of a reset for causes 1 to 3 makes it RUNNING with skip counter 0; then the counter. -/
def State.stepSkip (s : State) (n : Sector) : State :=
  let starts := (s.stopped n && s.isSet (F.SEC_CTL_SPEND n)) || s.restarting n
  let s := if starts then
      ((s.put (F.SEC_CTL_STATE n) 1).put (F.SEC_CTL_SPEND n) 0).onSec n fun x => { x with skipLeft := 0 }
    else s
  let x := s.secs[n]
  if !s.running n || x.rstWait.isSome then s.onSec n fun x => { x with inFrame := false }
  else if x.skipLeft = 0 then
    let k := s.get (F.SCH_SKIP_SKIP n)
    ((s.onSec n fun x => { x with inFrame := true, skipLeft := k }).openInterval n).ageCommands n
  else s.onSec n fun x => { x with inFrame := false, skipLeft := x.skipLeft - 1 }

/-- Steps 5 and 6 for one sector: frame, tier, TCAP, CAPLEFT, and its alarms. -/
def State.stepChoose (s : State) (n : Sector) : State :=
  if !s.secs[n].inFrame then s else
  match s.secs[n].image with
  | none => s
  | some im =>
    let f := s.chooseFrame n im
    let (t, r) := s.chooseTier n f im
    let s := if t < r then s.raise n 29 else s
    let s := s.put ⟨A.LDG_STAT, 2 * n + 11, 2 * n + 10⟩ t
    let c := s.get (F.SCH_BST_CAPLEFT n) - 1
    let s := (s.put (F.SCH_BST_CAPLEFT n) c).put (F.SCH_BST_CAP n) (bit (decide (c ≠ 0)))
    s.onSec n fun x => { x with frame := f, tier := t, nextSeg := 0, cancelled := false, qCancelled := 0 }

/-- The earliest first segment of a sector's frames: which frame runs next is not known before the boundary (01 R16). -/
def State.firstStart (s : State) (n : Sector) : Option Nat :=
  match s.secs[n].image with
  | none => none
  | some im => (im.entries.filterMap fun e => e.segs.head?.map SegRec.start).min?

/-- A wake begun for a first segment that this frame does not have at the expected tick holds nothing up any more; one for a sector that the
frame passes over is for a frame to come. -/
def State.releaseAwake (s : State) : State :=
  let keeps (n : Sector) : Bool :=
    let x := s.secs[n]
    if !x.inFrame then s.running n && x.rstWait.isNone else decide ((s.segOf n x.frame x.tier 0).map SegRec.start = s.firstStart n)
  { s with pwr := { s.pwr with awake := s.pwr.awake.filter keeps } }

/-- The boundary logic starts sector 0 at the first frame after boot (16 R379). -/
def State.bootFrame (s : State) : State :=
  if s.boot.phase = 6 then
    let s := { s with boot := { s.boot with phase := 7 } }
    if s.isSet (F.SEC_CTL_IMG 0) then s.setFlag (F.SEC_CTL_SPEND 0) else s
  else s

/-- Steps 1 to 6 at edge F, on the events, the thermal level and STORE as the edge before latched them (01 R25; notes/assumptions/69.md);
the stale copies take what the edge leaves (06 R139). Of the log's requests those of class SCHED come before those of class LOCK
(12 R281). -/
def State.boundary (s : State) : State :=
  let s := s.bootFrame.restartCounts
  let s := { s with sch := { s.sch with frameStart := s.tick, started := true, pulse := true } }
  let s := s.stepMeter.revokeLocks.stepThermal.stepPending
  let s := sectors.foldl State.stepSkip s
  let s := (sectors.foldl State.stepChoose s.settleTier).releaseAwake
  let s := s.twinBoundary.telemBoundary
  ({ s with eng := { s.eng with prologueDue := true } }).refreshStale

/-- A frame starts; before boot has reached B6 there is none. -/
def execFrameBoundary (s : State) : Host.Outcome State Fault Refusal := .next (if s.boot.phase < 6 then s else s.boundary)

/-! ## SYNC (01 R24) -/

/-- Distance of two ticks. -/
def tickGap (a b : Nat) : Nat := Nat.min (ticksFrom a b) (ticksFrom b a)

/-- A rising edge at SYNC: in IN mode it calls the frame 2 or 3 ticks later (R435; which of the two is open, 06 R137), when that lies within
±2 ticks of the expected start and no edge has called the frame yet; otherwise it counts as STRAY. -/
def execSyncEdge (s : State) : Host.Outcome State Fault Refusal :=
  .next (
    if s.sch.mode ≠ 2 ∨ !s.sch.started then s
    else
      let (k, s) := s.fresh
      let at_ := tickAfter s.tick (2 + (Config.crossing k).val)
      if s.sch.syncAt.isNone ∧ tickGap at_ (tickAfter s.sch.frameStart (s.get F.SCH_FRAME_PERIOD)) ≤ 2 then
        { s with sch := { s.sch with syncAt := some at_ } }
      else s.bump F.SCH_SYNC_STRAY)

/-! ## Wakes and anchors (01 R21, R26 to R28) -/

/-- Lead of a wake kind, ticks; 0 acts as 1. -/
def State.wakeLead (s : State) (kind : Nat) : Nat :=
  Nat.max 1 (if kind = 1 then s.get F.SCH_WLEAD_HOT else if kind = 2 then s.get F.SCH_WLEAD_WARM else s.get F.SCH_WLEAD_COLD)

/-- A wake-start tick of a segment of sector n has come. -/
def execWakeAlarm (n : Sector) (s : State) : Host.Outcome State Fault Refusal :=
  .next (
    if s.get F.THERM_STAT_LEVEL = 3 ∨ s.secs[n].image.isNone ∨ ¬ (s.running n ∨ s.isSet (F.SEC_CTL_SPEND n) ∨ s.restarting n) then s
    else s.startWake 1 [n])

/-- The core is ON and the engine idle: no segment, drain or reset action holds it. -/
def State.engineFree (s : State) : Bool :=
  s.isOn .core && (s.dom .core).moving.isNone && s.pwr.wake.isNone && s.eng.cur.isNone && s.eng.drain.isNone &&
    sectors.all fun n => !s.secs[n].rstBusy

/-- A sector's machine state at the start of a segment: zero after CORE was OFF or a reset; return stack and WAIT latch empty
(03 R53, R67, R70). -/
def SectorSt.begin (x : SectorSt) : SectorSt :=
  let x := if x.lost then { x with w := Vector.replicate 16 0, a := Vector.replicate 4 0, p := Vector.replicate 8 false } else x
  { x with lost := false, stack := [], latch := none }

/-- The 3 or 4 cycles before a segment's first bundle pass for the copies in progress (01 R26, R27, 04 R109). -/
def State.leadCycles (s : State) : State :=
  if s.eng.copies.isEmpty then s else
  let (k, s) := s.fresh
  s.copyCycles (3 + (Config.crossing k).val)

/-- A segment begins: its first bundle is the next to issue. -/
def State.beginSegment (s : State) (w : Waiting) : State :=
  match s.segOf w.sec w.frame w.tier w.idx with
  | none => s
  | some g =>
    let s := s.leadCycles
    (s.onSec w.sec SectorSt.begin).setSeg
      { sec := w.sec, frame := w.frame, tier := w.tier, idx := w.idx, seg := g, cyc := 0, slotPos := 0, pc := g.entry,
        redirects := [], ending := false, cancel := false, overran := false, kill := false }

/-- A segment starts late (01 R27). -/
def State.countLate (s : State) (n : Sector) : State := s.bump ⟨A.SCH_LATE, 4 * n + 3, 4 * n⟩

/-- A segment at its anchor, its sector running: it starts, waits, or is skipped in CRIT or after an abandoned wake. One held back at its
anchor by an earlier segment of its sector starts late in any case. -/
def State.anchor (s : State) (w : Waiting) (g : SegRec) : State :=
  if s.get F.THERM_STAT_LEVEL = 3 then s.critSkip w.sec g
  else if s.pwr.oscDead then (s.bump F.CLK_STAT_OSCSKIP).dropCharge w.sec g.qseg
  else
    let t := s.revokeLocks
    if t.engineFree && t.eng.waiting.isEmpty then (if tickBefore w.anchor t.tick then t.countLate w.sec else t).beginSegment w
    else
      let u := { t with eng := { t.eng with waiting := t.eng.waiting ++ [w] } }
      if (u.isOn .core && (u.dom .core).moving.isNone) || u.pwr.wake.isSome then u else u.startWake 1 [w.sec]

/-- The edge of a segment's start tick in the frame in progress. -/
def State.anchorTick (s : State) (g : SegRec) : Nat := tickAfter s.sch.frameStart g.start

/-- A segment of sector n waits for the engine: the most that may (02 Table CON-11). -/
def State.waits (s : State) (n : Sector) : Bool := s.eng.waiting.any fun w => decide (w.sec = n)

/-- The anchor of the next segment of sector n, none before its start tick; the stale copies take what its edge leaves (06 R139). While an
earlier segment of the sector waits, this one stays armed and joins the waiting ones once that has started (notes/assumptions/50.md). -/
def execSegmentAnchor (n : Sector) (s : State) : Host.Outcome State Fault Refusal :=
  .next (
    let s := s.refreshStale
    let x := s.secs[n]
    match s.segOf n x.frame x.tier x.nextSeg with
    | none => s
    | some g =>
      let a := s.anchorTick g
      if !x.inFrame || x.cancelled || x.rstWait.isSome || !s.running n || tickBefore s.tick a || s.waits n then s
      else (s.onSec n fun x => { x with nextSeg := x.nextSeg + 1 }).anchor ⟨n, x.frame, x.tier, x.nextSeg, a⟩ g)

/-- The waiting segment that runs first: the earlier anchor, then the lower sector (01 R28). -/
def firstWaiting : List Waiting → Option Waiting
  | [] => none
  | w :: l => match firstWaiting l with
    | none => some w
    | some v => if tickBefore v.anchor w.anchor ∨ (v.anchor = w.anchor ∧ v.sec < w.sec) then some v else some w

/-- A waiting segment of sector n, the first in the order of R28, starts late. -/
def execLateSegmentStart (n : Sector) (s : State) : Host.Outcome State Fault Refusal :=
  .next (
    match firstWaiting s.eng.waiting with
    | none => s
    | some w =>
      if w.sec = n ∧ s.engineFree then
        let s := { s with eng := { s.eng with waiting := s.eng.waiting.erase w } }
        (s.countLate n).beginSegment w
      else s)

/-- Step 7, 64 cycles: host lane commands held for the boundary, LANE_STATUS, the heartbeat. -/
def execBoundaryPrologue (s : State) : Host.Outcome State Fault Refusal :=
  .next (
    if s.eng.prologueDue ∧ s.isOn .core then
      let s := ({ s with eng := { s.eng with prologueDue := false } }).copyCycles 64
      let s := lanes4.foldl (fun s i => s.applyHcmd i) s
      (lanes4.foldl (fun s i => s.snapLane i) s).queueHeartbeat
    else s)

/-! ## Overruns (02 Table CON-8) -/

/-- Cycle DCYC passes without the ending bundle. -/
def execOverrun (s : State) : Host.Outcome State Fault Refusal :=
  .next (
    match s.eng.cur with
    | some g => if g.overran ∨ g.cyc < g.seg.dcyc then s else (s.setSeg { g with overran := true }).breachHere 1 0
    | none => s)

/-- GRACE in force. -/
def State.grace (s : State) : Nat := Nat.max 16 (s.sch.ovgr.toNat % 4096)

/-- Cycle DCYC + GRACE passes: the segment is force-ended and drains. -/
def execOvercut (s : State) : Host.Outcome State Fault Refusal :=
  .next (
    match s.eng.cur with
    | some g =>
      if !g.overran ∨ g.cyc < g.seg.dcyc + s.grace then s
      else { s.breachHere 2 0 with eng := { (s.breachHere 2 0).eng with cur := none, drain := some g.sec } }
    | none => s)

end Sys2Proof.Machine
end

