-- ==== Sys2Proof/Machine/Boot.lean ====
section
/-! DEFINITION. Device resets, power loss, and boot from straps to the first frame; guest loads (16, 12 R279, R285, R292). -/

namespace Sys2Proof.Machine

/-! ## Register columns (16 Table RST-1) -/

/-- Bits of a register that only a lost Thermos resets (07 R180). -/
def thermosBits (a : Nat) : Word :=
  match regAt a with
  | some (r, _) => r.maskOf (·.thermos)
  | none => 0

/-- The POR column; with `keep` the fields held in Thermos stay. -/
def State.porColumn (s : State) (keep : Bool) : State :=
  let regs := s.regs.filterMap fun c =>
    let m := if keep then thermosBits c.1 else 0
    let v := (c.2 &&& m) ||| (regPor c.1 &&& ~~~ m)
    if v = regPor c.1 then none else some (c.1, v)
  { s with regs := regs, stale := regs, flips := s.flips.filter fun f => keep && decide (thermosBits f.addr ≠ 0) }

/-- A register word after the PIN column. -/
def RegRow.pinWord (r : RegRow) (ix : List Nat) (w : Word) : Word :=
  r.fields.foldl (fun w f =>
    match f.pin with
    | .keep => w
    | .asPor => (w &&& ~~~ f.mask) ||| f.place (f.porOf ix)
    | .val v => (w &&& ~~~ f.mask) ||| f.place (if f.acc = .wo then 0 else v)) w

/-- The PIN column: over the registers that differ from POR, then over those whose PIN value does. -/
def State.pinColumn (s : State) : State :=
  let regs := s.regs.filterMap fun c =>
    match regAt c.1 with
    | some (r, ix) => let v := r.pinWord ix c.2; if v = regPor c.1 then none else some (c.1, v)
    | none => some c
  let s := { s with regs := regs, flips := s.flips.filter fun f => decide (thermosBits f.addr ≠ 0) }
  let s := regMap.foldl (fun s r =>
    if r.fields.any fun f => match f.pin with
        | .val v => decide (v ≠ f.por0 ∨ v ≠ f.por)
        | _ => false then
      (instances r.dims).foldl (fun s o =>
        if o.2.headD 0 < r.first then s else s.setWord (r.base + o.1) (r.pinWord o.2 (s.word (r.base + o.1)))) s
    else s) s
  { s with stale := s.regs }

/-! ## The record of a reset (16 R375, 14 R329) -/

def causeRank (c : Nat) : Nat := [6, 0, 2, 1, 3, 4, 5].getD c 6

def fDcnt : Fld := ⟨1, 17, 12⟩
def fCause : Fld := ⟨1, 5, 0⟩

/-- A device reset is recorded in Thermos; the incarnation advances, skipping 0. -/
def State.recordCause (s : State) (cause tick : Nat) : State :=
  let w := s.thermosWord 1
  let s := s.setThermos 2 (BitVec.ofNat 18 (fCause.of w))
  let s := s.setThermos 1 (BitVec.ofNat 18 (Nat.min (fDcnt.of w + 1) 63 * 4096 + cause))
  let s := (s.setThermos 3 (BitVec.ofNat 18 (tick / 2 ^ 18))).setThermos 4 (BitVec.ofNat 18 tick)
  s.setThermos 0x18 (if s.incarnation = 0x3FFFF then 1 else s.incarnation + 1)

/-- The cause goes into the record, with the role held before: a cause that meets a reset still held in B0 is one reset with it. -/
def State.noteCause (s : State) (cause : Nat) : State :=
  if s.boot.phase = 0 then s.setThermos 1 (fCause.into (s.thermosWord 1) cause)
  else (s.setThermos 0x19 (BitVec.ofNat 18 s.role)).recordCause cause s.tick

/-! ## Units at a device reset (16 R376, R378, R382) -/

/-- Bytes left free where an abandoned array step may have written. -/
def State.spoil (s : State) (a n : Nat) : State := let (f, s) := freeBytes n s; s.putFlash a f

/-- The operation whose array step a reset abandons leaves its granule or page as it may be; an erase leaves its info granule bad. Reclaims
are not removed: they begin again after the reset (12 R288). -/
def State.abandonFlash (s : State) : State :=
  let spoilErase (s : State) (o : FlashOp) : State :=
    let p := o.gran / 256
    (s.spoil (p * 4096) 4096).onMem fun m => { m with infoBad := p :: m.infoBad.filter (· ≠ p) }
  let s := match s.mem.factive with
    | none => s
    | some o =>
      if !o.busy then s
      else if o.erasing then
        match s.pageToUse o with
        | some p => spoilErase s { o with gran := p * 256 }
        | none => s
      else if o.op = 2 then s.spoil (16 * o.gran) 16
      else if o.op = 8 then s.spoil (16 * (o.gran + o.step)) 16
      else if o.op = 3 ∨ o.op = 9 ∨ (o.op = 7 ∧ o.moves.isEmpty) then spoilErase s o
      else s.spoil (s.recordGranule o) 16
  let s := match s.mem.fsusp with
    | some o => spoilErase s o
    | none => s
  let pages := (s.flashHeld.filter fun o => decide (o.op = 7)).map fun o => o.gran / 256
  s.onMem fun m => { m with factive := none, fsusp := none, fqueue := [], fwaits := false,
                            reclaims := pages ++ m.reclaims.filter (· ∉ pages) }

/-- OTP programming that is cut short: any of the bits it was to set may be set. -/
def State.abandonOtp (s : State) : State :=
  match s.mem.otpPend with
  | none => s
  | some (a, v) =>
    let (k, s) := s.fresh
    s.onMem fun m => { m with otpPend := none, otp := storeWrite (fun _ => 0) m.otp a (storeRead (fun _ => 0) m.otp a ||| (v &&& Config.flashByte k)) }

/-- Curve memory outside the coefficients (10 Table CAL-9). -/
def curveCleared (a : Nat) : Bool := decide (a < 0x200) || decide (0x400 ≤ a ∧ a < 0x900)

/-- Every unit but the memories, the outputs, the ledger and the power domains starts afresh; GP pads are inputs (Table RST-6). -/
def State.restartUnits (s : State) : State :=
  { s with
    eng := {}, sch := {}, secs := State.reset.secs, locks := Vector.replicate 16 {}, lanes := Vector.replicate 4 {}, afe := { virt := s.afe.virt }
    cal := { mem := s.cal.mem.filter fun c => !curveCleared c.1 }
    tw := { extLow := s.tw.extLow, dropClaim := s.tw.dropClaim }
    net := { s.net with tx := [], rx := [], telCount := 0, telReq := false, naks := [], logged := [] }
    host := { selected := s.host.selected, mode3 := s.host.mode3 }
    pins := { s.pins with gpFunc := Vector.replicate 8 0 }
    mem := { s.mem with writeBack := [], mirrored := 0 }
    ldg := { s.ldg with iv := Vector.replicate 4 {}, vavgKnown := false } }

/-- Boot begins again at B0 or B1. -/
def State.restartBoot (s : State) (cause : Nat) : State := { s with boot := { phase := 0, aon := s.boot.aon, cause := cause } }

/-- Votes in force after a device reset (06 R143), no wake, and the slow clock on the LPO as SCSRC tells in every reset column (06 Table
PWR-15; notes/assumptions/83.md). -/
def State.resetVotes (s : State) : State :=
  { s with pwr := { s.pwr with votes := State.reset.pwr.votes, posts := [], awake := [], wake := none, oscDead := false,
                                hold := Vector.replicate 3 0, autoRet := Vector.replicate 4 false, mdiv := Vector.replicate 4 2,
                                slowXtal := false, slowLost := false, lpoTicks := 0 } }

/-- BOR, of VSYS (2) or of VCORE in LOW mode (3): everything but AON. -/
def State.brownOut (s : State) (cause : Nat) : State :=
  let s := ((s.noteCause cause).abandonFlash).abandonOtp
  let s := s.restartUnits.resetVotes
  let s := { s with tick := 0, cal := {}, tw := { extLow := s.tw.extLow }
                    mem := { s.mem with hamper := [], upset := [] }
                    ldg := { s.ldg with run := none, latched := 0 }
                    pwr := { s.pwr with dom := Vector.replicate 22 {}, xtal := .stop, pll := false, wakeRecTick := none } }
  ((s.porColumn true).seqClear.settleStale).outputsOff.restartBoot cause

/-- A domain is sent to its boot state (16 R378). -/
def State.toBootState (s : State) (d : Dom) : State :=
  let x := s.dom d
  let t := s.domTarget d
  if x.moving.isNone then (if mayMove d x.state t then s.startMove d t else s) else s.retarget d t

/-- PIN, WDG and SOFT: outputs take their dispositions, shared ones are released and then the claim, the units restart and the domains
go to their boot states. -/
def State.warmReset (s : State) (cause : Nat) : State :=
  let own := s.isSet F.TW_STAT_CLMOWN
  let s := ((s.noteCause cause).abandonFlash).abandonOtp
  let s := s.outputsReset
  let s := { s with tw := { s.tw with dropClaim := own || s.tw.dropClaim } }.linkDrop
  let s := ((s.restartUnits.resetVotes).pinColumn).restartBoot cause
  (allDoms.foldl State.toBootState s.restCrystal).settleClaim

/-- A device reset. In B0 a cause of lower rank than the one in force adds nothing. -/
def State.deviceReset (s : State) (cause : Nat) : State :=
  if s.boot.phase = 0 ∧ causeRank s.boot.cause ≤ causeRank cause then s
  else if cause ≤ 3 then s.brownOut cause else s.warmReset cause

/-- VSYS below V_BOR for 2 µs. -/
def execBor (s : State) : Host.Outcome State Fault Refusal := .next (s.deviceReset 2)

/-- The LOW-mode regulator is overloaded and VCORE stays below 0.81 V for 2 µs (06 R158). -/
def execBorLowmode (s : State) : Host.Outcome State Fault Refusal :=
  .next (if s.isSet F.PWR_REGCTL_MODE then s else s.deviceReset 3)

/-- RST# low for 2 µs; without VDDIO the pin reads as released (17 R394). -/
def execPin (s : State) : Host.Outcome State Fault Refusal := .next (if s.pins.vddio then s.deviceReset 4 else s)

/-- The system watchdog expires (05 R123). -/
def execWdg (s : State) : Host.Outcome State Fault Refusal := .next (if s.watchdogDone 0 then s.deviceReset 5 else s)

/-! ## Power (16 Table RST-1, 12 R279) -/

/-- VSYS falls below V_POR: the device is unpowered. Flash and OTP keep their contents, Thermos with `held`. -/
def execVsysLoss (held : Bool) (s : State) : Host.Outcome State Fault Refusal :=
  .next (
    let s := (s.setThermos 0x19 (BitVec.ofNat 18 s.role)).abandonFlash.abandonOtp
    let keep := s.porColumn true
    let t : State :=
      { State.reset with
        pending := s.pending, free := s.free
        mem := { flash := s.mem.flash, wear := s.mem.wear, infoBad := s.mem.infoBad, otp := s.mem.otp,
                 thermos := if held then s.mem.thermos else [] }
        tw := { extLow := s.tw.extLow }
        pins := { vddio := s.pins.vddio } }
    let t := if held then
        { t with regs := keep.regs, stale := keep.regs, flips := keep.flips
                 ldg := { etotFrac := s.ldg.etotFrac, storeFrac := s.ldg.storeFrac, staged := s.ldg.staged } }
      else t
    t.seqClear.outputsOff)

/-- The mark of a valid Thermos. -/
def thermosMark : Word := 0x2D5A3

/-- AON has powered up: Thermos is checked, and rewritten if lost; the POR is recorded. -/
def execAonReady (s : State) : Host.Outcome State Fault Refusal :=
  .next (
    if s.boot.aon then s else
    let s := if s.thermosWord 0 = thermosMark then s
      else
        let t := s.porColumn false
        ({ t with mem := { t.mem with thermos := [] }, ldg := {} }).setThermos 0 thermosMark
    (({ s with boot := { s.boot with aon := true, cause := 1 } }).recordCause 1 0))

/-! ## Boot phases (16 Table RST-3) -/

/-- B1: BOOT and TEST are sampled; a device that samples TEST high stays there. The boot wake starts. -/
def execStrapSample (bootHigh test : Bool) (s : State) : Host.Outcome State Fault Refusal :=
  .next (
    if s.boot.phase ≠ 0 ∨ !s.boot.aon ∨ s.boot.held then s
    else if test then { s with boot := { s.boot with held := true } }
    else
      let s := s.put F.SYS_BOOT_BOOTPIN (bit bootHigh)
      ({ s with boot := { s.boot with phase := 2 } }).startWake 9 [])

/-- The boot policy in OTP; `none` for a policy fault (12 R292). -/
def State.readPolicy (s : State) : Option Policy :=
  let b (k : Nat) : Nat := (s.otpByte (0x50 + k)).toNat
  if (List.range 16).all (fun k => decide (b k = 0)) || (List.range 8).all (fun k => decide (s.otpByte (0x50 + k) ^^^ s.otpByte (0x58 + k) = 0xFF)) then
    some { cmacreq := b 0 % 16, ksel := b 1, slotord := b 2 % 4, hostnold := decide (b 2 / 4 % 2 = 1), dbgoff := decide (b 2 / 8 % 2 = 1),
           otplock := decide (b 2 / 16 % 2 = 1), wdtlim := b 3 * 16 + b 4 / 16 }
  else none

/-- B3: the policy is applied. -/
def execPolicyRead (s : State) : Host.Outcome State Fault Refusal :=
  .next (
    if s.boot.phase ≠ 2 ∨ !s.isOn .core then s else
    let p := s.readPolicy
    let s := if p.isNone then s.setFlag F.FL_STAT_POLF else s
    let q := p.getD { cmacreq := 15, hostnold := true }
    ({ s with boot := { s.boot with phase := 4, policy := q } }).put (F.SEC_WDT_LIM 0) q.wdtlim)

/-- The pages of the area a page lies in (12 Table MEM-5). -/
def areaOf (p : Nat) : List Nat :=
  if p < 32 then List.range 32 else if p < 64 then List.range' 32 32 else if p < 120 then List.range' 64 56 else List.range' 120 8

/-- A page whose info granule fails its check is SUSPECT, its count the highest of its area plus 1; of the journal's it is logged. -/
def State.suspectPage (s : State) (p : Nat) : State :=
  let k := ((areaOf p).filter (· ∉ s.mem.infoBad)).foldl (fun m q => Nat.max m (s.eraseCount q)) 0 + 1
  let s := s.onMem fun m => { m with wear := storeWrite (fun _ => 0) m.wear p k, suspect := p :: m.suspect.filter (· ≠ p) }
  if inJournal p then s.log 5 0 p 3 k else s

/-- The valid records of the journal. -/
def State.journal (s : State) : List (Nat × List Byte) :=
  (s.recordStarts.map fun a => (a, s.recordAt a)).filter fun r => isCalRecord r.2 || isLogRecord r.2

/-- Every byte of a page reads FFh. -/
def State.pageBlank (s : State) (p : Nat) : Bool := s.mem.flash.all fun c => decide (c.1 / 4096 ≠ p)

/-- B4: info granules, head and SEQ; the page ahead of the head is reclaimed where it is not erased or is SUSPECT (12 R284, R285), with the
reclaims that waited; after POR and BOR the coefficients are restored. -/
def execJournalScan (s : State) : Host.Outcome State Fault Refusal :=
  .next (
    if s.boot.phase ≠ 4 then s else
    let s := s.mem.infoBad.foldl State.suspectPage s
    let s := match largest (fun r => recordSeq r.2) s.journal with
      | none => ((s.put F.FL_JRNL_HEADPG 64).put F.FL_JRNL_HEADREC 0).onMem fun m => { m with jseq := 1 }
      | some r =>
        let s := (s.put F.FL_JRNL_HEADPG (r.1 / 4096)).put F.FL_JRNL_HEADREC (r.1 / 32 % 128)
        s.advanceHead.onMem fun m => { m with jseq := recordSeq r.2 + 1 }
    let p := nextPage (s.get F.FL_JRNL_HEADPG)
    let s := if s.pageBlank p ∧ p ∉ s.mem.suspect then s.fillQueue else s.reclaimPage p
    let s := s.put F.FL_ECMAX_EC ((areaOf 64).foldl (fun m q => Nat.max m (s.eraseCount q)) 0)
    let s := if (List.range 128).any (fun p => decide (18000 ≤ s.eraseCount p)) then s.setFlag F.FL_STAT_WEAR else s
    let s := if (List.range 128).any (fun p => decide (20000 ≤ s.eraseCount p)) then s.setFlag F.FL_STAT_EOL else s
    let s := if s.boot.cause ≤ 3 then coefAddrs.foldl (fun s a => s.restoreCoef a) s else s
    { s with boot := { s.boot with phase := 5 } })

/-! ## Slots (16 R381 to R385) -/

/-- First byte of slot 1 (A) or 2 (B). -/
def slotBase (slot : Nat) : Nat := (slot - 1) * 0x20000

/-- The entry of sector n in a slot's valid directory: granule, SEC_IMEM and SEC_WIN values. -/
def State.dirEntry (s : State) (slot : Nat) (n : Sector) : Option (Nat × Word × Word) :=
  let d := s.flashBytes (slotBase slot) 64
  let g := fieldAt d (8 + 8 * n) 2 13
  if d.take 4 = [0x59, 0x44, 0x49, 0x52] ∧ byteAt d 4 = 1 ∧ fieldAt d 60 4 32 = (crc32 (d.take 60)).toNat ∧
      byteAt d 5 / 2 ^ n.val % 2 = 1 ∧ 4 ≤ g then
    some (g, BitVec.ofNat 18 (fieldAt d (10 + 8 * n) 2 11), BitVec.ofNat 18 (fieldAt d (12 + 8 * n) 2 13))
  else none

/-- The bytes the loader reads: LEN from the header, or up to the end of the slot (16 R384). -/
def State.slotImage (s : State) (slot gran : Nat) : List Byte :=
  let a := slotBase slot + 16 * gran
  let room := slotBase slot + 0x20000 - a
  s.flashBytes a (Nat.min room (Nat.max 32 (imageLen (s.flashBytes a 32))))

/-- Code 20h, DIRECTORY. -/
def State.noEntry (s : State) (n : Sector) : State := (s.put F.SCH_LDST_SECT n).put F.SCH_LDST_CODE 0x20

/-- Region and window from a slot's entry, and the image; code 20h where the entry is missing or a write is rejected. -/
def State.loadSlot (s : State) (slot : Nat) (n : Sector) : State :=
  match s.dirEntry slot n with
  | none => s.noEntry n
  | some (g, im, wn) =>
    let bad (s : State) (reg : Nat) (v : Word) : Bool := s.grantClash n reg v || !s.stopped n
    let t := s.writeGrant n 1 im
    if bad s 1 im then t.noEntry n else
    let u := t.writeGrant n 2 wn
    if bad t 2 wn then u.noEntry n else
    let l := u.slotImage slot g
    u.loadImage n l (Nat.min l.length (imageLen l))

/-- Slots in the order of SLOTORD. -/
def slotOrder (k : Nat) : List Nat := if k = 0 then [1, 2] else if k = 1 then [2, 1] else if k = 2 then [1] else [2]

/-- Try slots in order; `first` while no slot has been tried. -/
def bootSlots (first : Bool) : List Nat → State → State
  | [], s => ((s.setFlag F.SYS_BOOT_BOOTF).setWord (A.SEC_IMEM 0) (regPor (A.SEC_IMEM 0))).setWord (A.SEC_WIN 0) (regPor (A.SEC_WIN 0))
  | k :: rest, s =>
    let s := s.loadSlot k 0
    let code := s.get F.SCH_LDST_CODE
    if code = 0 then s.put F.SYS_BOOT_SLOT k
    else bootSlots false rest (if first then (s.setFlag F.SYS_BOOT_FALLBK).put F.SYS_BOOT_FCODE code else s)

/-- B5: host boot, or sector 0's image from the first slot that passes. -/
def execBootSlotLoad (s : State) : Host.Outcome State Fault Refusal :=
  .next (
    if s.boot.phase ≠ 5 then s
    else if s.isSet F.SYS_BOOT_BOOTPIN ∧ !s.boot.policy.hostnold then s.setFlag F.SYS_BOOT_HOSTBOOT
    else
      let s := if s.isSet F.SYS_BOOT_BOOTPIN then s.setFlag F.SYS_BOOT_BOOTX else s
      bootSlots true (slotOrder s.boot.policy.slotord) s)

/-- B6: the first frame boundary, at the first edge at least 2 ticks after B5 ends, will start sector 0; B5 ends after the edge of the
running tick. The domains leave their boot states. -/
def execBootStart (s : State) : Host.Outcome State Fault Refusal :=
  .next (
    if s.boot.phase ≠ 5 then s
    else ({ s with boot := { s.boot with phase := 6 }, sch := { s.sch with syncAt := some (tickAfter s.tick 3) } }).retargetAll.settleW)

/-- A write of SYS_BLOAD: GO starts a load unless one runs. -/
def State.startGuest (s : State) (v : Word) : State :=
  if !v.getLsbD 17 ∨ s.isSet F.SYS_BLOAD_BUSY then s
  else
    let k := v.toNat / 2 ^ 15 % 4
    let slot := if k = 1 ∨ k = 2 then k else s.get F.SYS_BOOT_SLOT
    ({ s with boot := { s.boot with guest := some (slot, ⟨v.toNat / 2 ^ 13 % 4, by omega⟩) } }).setFlag F.SYS_BLOAD_BUSY

/-- The load that runs ends, its outcome in SCH_LDST. -/
def State.finishGuest (s : State) : State :=
  match s.boot.guest with
  | none => s
  | some (slot, n) =>
    let s := { s with boot := { s.boot with guest := none } }
    (if slot = 0 then s.noEntry n else s.loadSlot slot n).put F.SYS_BLOAD_BUSY 0

end Sys2Proof.Machine
end

