-- ==== Sys2Proof/Machine/LoadStore.lean ====
section
/-! DEFINITION. Slot M: the six opcodes of Table INS-3 (04 R95, R96). A load sees Hamper as the stores of earlier cycles left it (03 R64) and
reads it one cycle after its issue (R84): what the read tells, and the loaded value, come then. The base increment is written at the end of
the issue cycle. -/

namespace Sys2Proof.Machine

/-- EA = wA + imm4, 18 bits unsigned (03 R72). -/
def eaOffset (x : SectorSt) (a b : Fin 16) : Word := x.rdW a + BitVec.ofNat 18 b

/-- The post-incremented base: wA + imm4 + 1. -/
def postInc (x : SectorSt) (a b : Fin 16) : Word := x.rdW a + BitVec.ofNat 18 b + 1

def sylLd (n : Sector) (d a b : Fin 16) (s : State) : State :=
  let (v, k, s) := s.peekAt n (eaOffset s.secs[n] a b)
  s.addFlight ⟨n, 2, .wLoad d v k, false⟩

def sylLdPostinc (n : Sector) (d a b : Fin 16) (s : State) : State :=
  let x := s.secs[n]
  let (v, k, s) := s.peekAt n (x.rdW a)
  (s.toW n 1 a (postInc x a b) false).addFlight ⟨n, 2, .wLoad d v k, false⟩

def sylSt (n : Sector) (d a b : Fin 16) (s : State) : State :=
  s.storeAt n (eaOffset s.secs[n] a b) (s.secs[n].rdW d)

def sylStPostinc (n : Sector) (d a b : Fin 16) (s : State) : State :=
  let x := s.secs[n]
  (s.storeAt n (x.rdW a) (x.rdW d)).toW n 1 a (postInc x a b) false

/-- Each word is tested separately for the window (04 R96). -/
def sylLdd (n : Sector) (d a b : Fin 16) (s : State) : State :=
  let ea := eaOffset s.secs[n] a b
  let (hi, k, s) := s.peekAt n ea
  let (lo, m, s) := s.peekAt n (ea + 1)
  s.addFlight ⟨n, 2, .aLoad (accIx d) ((hi ++ lo).signExtend 48) k m, false⟩

/-- std clamps to 36 bits and sets SAT when the clamp changes the value. -/
def sylStd (n : Sector) (d a b : Fin 16) (s : State) : State :=
  let x := s.secs[n]
  let ea := eaOffset x a b
  let r := sat36 (x.rdA (accIx d)).toInt
  let s := (s.storeAt n ea (dwordHigh r.1)).storeAt n (ea + 1) (dwordLow r.1)
  if r.2 then s.setFlag (F.SEQ_FLAG_SAT n) else s

def execLd (d a b : Fin 16) (s : State) : Host.Outcome State Fault Refusal := .next (issueAlone (fun n => sylLd n d a b) s)

def execLdPostinc (d a b : Fin 16) (s : State) : Host.Outcome State Fault Refusal :=
  .next (issueAlone (fun n => sylLdPostinc n d a b) s)

def execSt (d a b : Fin 16) (s : State) : Host.Outcome State Fault Refusal := .next (issueAlone (fun n => sylSt n d a b) s)

def execStPostinc (d a b : Fin 16) (s : State) : Host.Outcome State Fault Refusal :=
  .next (issueAlone (fun n => sylStPostinc n d a b) s)

def execLdd (d a b : Fin 16) (s : State) : Host.Outcome State Fault Refusal := .next (issueAlone (fun n => sylLdd n d a b) s)

def execStd (d a b : Fin 16) (s : State) : Host.Outcome State Fault Refusal := .next (issueAlone (fun n => sylStd n d a b) s)

end Sys2Proof.Machine
end

