-- ==== Sys2Proof/Machine/MulAcc.lean ====
section
/-! DEFINITION. Slot K: the 11 opcodes of Table INS-2 (04 R93, R94), each L = 3. mac, msu, adda and suba read aD in their last cycle; every
other operand is read at issue. -/

namespace Sys2Proof.Machine

/-! ## Shared shapes -/

/-- The exact product of wA and B. -/
def product (n : Sector) (a b : Fin 16) (imm : LongImm) (s : State) : Int :=
  (s.secs[n].rdW a).toInt * (kReg s.secs[n] b imm).toInt

/-- sat36 of an accumulator read at issue. -/
def accSat36 (n : Sector) (a : Fin 16) (s : State) : DWord × Bool := sat36 (s.secs[n].rdA (accIx a)).toInt

/-! ## Syllables -/

def sylMul (n : Sector) (d a b : Fin 16) (imm : LongImm) (s : State) : State :=
  s.toA n 3 (accIx d) (BitVec.ofInt 48 (product n a b imm s))

def sylMac (n : Sector) (d a b : Fin 16) (imm : LongImm) (s : State) : State :=
  s.toAccum n (accIx d) (product n a b imm s)

def sylMsu (n : Sector) (d a b : Fin 16) (imm : LongImm) (s : State) : State :=
  s.toAccum n (accIx d) (-(product n a b imm s))

def sylMova (n : Sector) (d a _b : Fin 16) (_imm : LongImm) (s : State) : State :=
  s.toA n 3 (accIx d) ((s.secs[n].rdW a).signExtend 48)

def sylAdda (n : Sector) (d a _b : Fin 16) (_imm : LongImm) (s : State) : State :=
  s.toAccum n (accIx d) (s.secs[n].rdW a).toInt

def sylSuba (n : Sector) (d a _b : Fin 16) (_imm : LongImm) (s : State) : State :=
  s.toAccum n (accIx d) (-(s.secs[n].rdW a).toInt)

def sylMovia (n : Sector) (d _a b : Fin 16) (imm : LongImm) (s : State) : State :=
  s.toA n 3 (accIx d) (BitVec.ofInt 48 (moviaB b imm))

def sylAsr (n : Sector) (d a b : Fin 16) (imm : LongImm) (s : State) : State :=
  s.toA n 3 (accIx d) (BitVec.ofInt 48 (floorShift (s.secs[n].rdA (accIx a)).toInt (kCount b imm)))

def sylExt (n : Sector) (d a b : Fin 16) (imm : LongImm) (s : State) : State :=
  let r := sat18 (roundShift (s.secs[n].rdA (accIx a)).toInt (kCount b imm))
  s.toW n 3 d r.1 r.2

def sylExth (n : Sector) (d a _b : Fin 16) (_imm : LongImm) (s : State) : State :=
  let r := accSat36 n a s
  s.toW n 3 d (dwordHigh r.1) r.2

def sylExtl (n : Sector) (d a _b : Fin 16) (_imm : LongImm) (s : State) : State :=
  let r := accSat36 n a s
  s.toW n 3 d (dwordLow r.1) r.2

/-! ## Commands -/

def execMul (d a b : Fin 16) (imm : LongImm) (s : State) : Host.Outcome State Fault Refusal :=
  .next (issueAlone (fun n => sylMul n d a b imm) s)

def execMac (d a b : Fin 16) (imm : LongImm) (s : State) : Host.Outcome State Fault Refusal :=
  .next (issueAlone (fun n => sylMac n d a b imm) s)

def execMsu (d a b : Fin 16) (imm : LongImm) (s : State) : Host.Outcome State Fault Refusal :=
  .next (issueAlone (fun n => sylMsu n d a b imm) s)

def execMova (d a b : Fin 16) (imm : LongImm) (s : State) : Host.Outcome State Fault Refusal :=
  .next (issueAlone (fun n => sylMova n d a b imm) s)

def execAdda (d a b : Fin 16) (imm : LongImm) (s : State) : Host.Outcome State Fault Refusal :=
  .next (issueAlone (fun n => sylAdda n d a b imm) s)

def execSuba (d a b : Fin 16) (imm : LongImm) (s : State) : Host.Outcome State Fault Refusal :=
  .next (issueAlone (fun n => sylSuba n d a b imm) s)

def execMovia (d a b : Fin 16) (imm : LongImm) (s : State) : Host.Outcome State Fault Refusal :=
  .next (issueAlone (fun n => sylMovia n d a b imm) s)

def execAsr (d a b : Fin 16) (imm : LongImm) (s : State) : Host.Outcome State Fault Refusal :=
  .next (issueAlone (fun n => sylAsr n d a b imm) s)

def execExt (d a b : Fin 16) (imm : LongImm) (s : State) : Host.Outcome State Fault Refusal :=
  .next (issueAlone (fun n => sylExt n d a b imm) s)

def execExth (d a b : Fin 16) (imm : LongImm) (s : State) : Host.Outcome State Fault Refusal :=
  .next (issueAlone (fun n => sylExth n d a b imm) s)

def execExtl (d a b : Fin 16) (imm : LongImm) (s : State) : Host.Outcome State Fault Refusal :=
  .next (issueAlone (fun n => sylExtl n d a b imm) s)

end Sys2Proof.Machine
end

