-- ==== Sys2Proof/Machine/RegAccess.lean ====
section
/-! DEFINITION. Writing registers (18 R411 to R419, R448 to R450, 13 R311, R312, 06 R138 to R140): rights, SYS_KEY, the post queue, access
classes and what a write to each register does; and the commands that are register writes. -/

namespace Sys2Proof.Machine

/-! ## SYS_KEY (13 R311) -/

def State.armed (s : State) : Bool := s.isSet F.SYS_KEY_ARMED

def State.disarm (s : State) : State :=
  if s.armed then ({ s with host := { s.host with keyTicks := 0 } }).put F.SYS_KEY_ARMED 0 else s

/-- Index of a KEY entry: 0 a program, 1 the host. -/
def keyIndex (acc : Accessor) : Nat := if acc.isProg then 0 else 1

/-- A write of SYS_KEY: the key arms it or restarts its 256 ticks; any other value disarms it and is logged. -/
def State.keyWrite (s : State) (acc : Accessor) (v : Word) : State :=
  if v = 0x2C3A5 then ({ s with host := { s.host with keyTicks := 256 } }).put F.SYS_KEY_ARMED 1
  else (s.disarm.bump F.SYS_KEYERR_KERR).log 8 acc.sector.val (keyIndex acc) 1 v.toNat

/-- A register write, like any other clamped while CORE is not ON (06 R142). -/
def execSysKeyWrite (acc : Accessor) (v : Word) (s : State) : Host.Outcome State Fault Refusal :=
  .next (if s.isOn .core then s.keyWrite acc v else s)

/-- 256 rising slow-clock edges after the write that armed it. -/
def execSysKeyExpiry (s : State) : Host.Outcome State Fault Refusal := .next (if s.host.keyTicks = 0 then s.disarm else s)

/-! ## Which bits take effect (18 R414, R449, 13 R311) -/

/-- The bits of a register that an accessor may write. -/
def State.ownBits (s : State) (acc : Accessor) (a : Nat) (r : RegRow) (i : Nat) : Word :=
  let n := acc.sector
  if a = A.CLK_MDIV then BitVec.ofNat 18 ((lanes4.map fun l => if s.hasLane n l then 7 * 8 ^ l.val else 0).sum)
  else if a = A.SYS_RST then
    BitVec.ofNat 18 ((if n = 0 then 256 else 0) + (lanes4.map fun l => if s.hasLane n l then 2 ^ l.val else 0).sum)
  else if s.mayAs acc r.writer r.base i then BitVec.allOnes 18 else 0

/-- WO bits of a written word that start no action: SLOT and SECT without GO, and CMD 11b of TW_CTL. -/
def idleBits (a : Nat) (v : Word) : Word :=
  if a = A.SYS_BLOAD ∧ !v.getLsbD 17 then 0x1E000 else if a = A.TW_CTL ∧ F.TW_CTL_CMD.of v = 3 then 0x30000 else 0

/-- What a read of a register would return now. -/
def State.readNow (s : State) (a : Nat) (r : RegRow) : Word :=
  if a = A.MEM_OTPD then (s.otpShown (s.get F.MEM_OTPA_ADDR)).setWidth 18 else s.shown a r

/-- Fields with several writers: a write is judged bit by bit (18 R449). -/
def RegRow.shared (r : RegRow) : Bool := decide (r.writer = .perField ∨ r.writer = .lockHolder)

/-- A write judged: refused for want of rights, refused for want of the key, and the bits that take effect. -/
structure Judgement where
  denied : Bool
  keyed : Bool
  bits : Word
  deriving DecidableEq, Repr

def State.judge (s : State) (acc : Accessor) (a : Nat) (r : RegRow) (i : Nat) (v : Word) : Judgement :=
  let own := s.ownBits acc a r i
  let rw := r.maskOf fun f => decide (f.acc = .rw)
  let act := r.maskOf fun f => decide (f.acc = .wo ∨ f.acc = .w1c)
  let touch := ((v ^^^ s.readNow a r) &&& rw) ||| (v &&& ~~~ idleBits a v &&& act)
  let key := r.maskOf (·.keyed) &&& own
  let denied := if r.shared then decide (touch &&& ~~~ own ≠ 0) else decide (own = 0)
  let keyed := !s.armed && decide (touch &&& key ≠ 0)
  let eff := (rw ||| act) &&& own &&& (if s.armed then BitVec.allOnes 18 else ~~~ key)
  ⟨denied, keyed, if denied || keyed then 0 else eff⟩

/-! ## Effects of core-domain fields -/

/-- What a write did: the state, denied, answered OWNED, or not taken for a full post queue. -/
structure WriteOut where
  state : State
  denied : Bool := false
  owned : Bool := false
  full : Bool := false
  deriving DecidableEq, Repr

/-- The RW bits take the value, the W1C bits written 1 clear. -/
def State.plainWrite (s : State) (a : Nat) (r : RegRow) (m v : Word) : State :=
  let w1c := r.maskOf fun f => decide (f.acc = .w1c)
  (s.setBits a ((r.maskOf fun f => decide (f.acc = .rw)) &&& m) v).setBits a (w1c &&& m &&& v) 0

/-- A counter that clears when any of certain bits is written 1. -/
def State.clearOn (s : State) (v : Word) (which : Word) (f : Fld) : State := if v &&& which ≠ 0 then s.put f 0 else s

/-- MDIVi written by the lanes' sector (06 R135, R159). -/
def State.writeMdiv (s : State) (m v : Word) : State :=
  lanes4.foldl (fun s (i : LaneId) =>
    if (fMdiv i).mask &&& m = 0 then s else
    let d := (fMdiv i).of v
    let s := s.put (fMdiv i) d
    (s.put (fMdpend i) (bit (decide (d ≠ s.pwr.mdiv[i])))).applyMdiv i) s

/-- SYS, PWR and CLK. -/
def State.writeSys (s : State) (a : Nat) (r : RegRow) (m v : Word) : State :=
  if 0x004 ≤ a ∧ a < 0x00C then
    let g : Fin 8 := ⟨(a - 4) % 8, by omega⟩
    (s.gpFunction g ((F.PIN_GP_FUNC g).of v)).setBits a (m &&& 0x3E000) v
  else if a = A.SYS_KEYERR then if v.getLsbD 16 then s.setBits a 0xFFFF 0 else s
  else if a = A.SYS_TMRFIX then if v.getLsbD 16 then s.setBits a 0xFFFF 0 else s
  else if a = A.SYS_RST then
    let s := lanes4.foldl (fun s (i : LaneId) => if (m &&& v).getLsbD i then s.resetLane i else s) s
    if (m &&& v).getLsbD 8 then s.deviceReset 6 else s
  else if a = A.SYS_BLOAD then s.startGuest v
  else if 0x040 ≤ a ∧ a < 0x050 then (s.plainWrite a r m v).retargetAll
  else if a = A.CLK_MDIV then s.writeMdiv m v
  else s.plainWrite a r m v

/-- SCH and SEQ. -/
def State.writeSch (s : State) (a : Nat) (r : RegRow) (m v : Word) : State :=
  if a = A.SCH_LATE then if v.getLsbD 16 then s.setBits a 0xFFFF 0 else s
  else
    let n := secIx (a % 4)
    let s := s.plainWrite a r m v
    if 0x114 ≤ a ∧ a < 0x118 then s.clearOn v 0x3F (F.SCH_BST_BCNT n)
    else if 0x11C ≤ a ∧ a < 0x120 then s.clearOn v 0x1FF (F.SEQ_FLAG_WINCNT n)
    else if a = A.SEQ_IECC then s.clearOn v 0x2000 F.SEQ_IECC_SBE
    else if 0x124 ≤ a ∧ a < 0x128 then s.clearOn v 0xF (F.SEQ_XST_XCNT n)
    else s

/-- SEC and LOCK. -/
def State.writeSec (s : State) (a : Nat) (r : RegRow) (m v : Word) : State :=
  if a = A.LOCK_NH then if v.getLsbD 16 then s.setBits a 0xFFFF 0 else s
  else if 0x280 ≤ a ∨ a = A.SEC_HATT then s.plainWrite a r m v
  else
    let n := secIx ((a - 0x200) / 32)
    let k := (a - 0x200) % 32
    if k = 0 then s.sectorCmd n ((F.SEC_CTL_CMD n).of v)
    else if k ≤ 5 then s.writeGrant n k v
    else if k = 0x0E then if v.getLsbD 0 then s.raise n 31 else s
    else if k = 0x0F then (s.plainWrite a r m v).raise n 20
    else if k = 0x1C then (s.plainWrite a r m v).clearOn v 0x38 (F.SEC_STAT_RCNT n)
    else s.plainWrite a r m v

/-- LANE windows and FIR banks (09 R212, R232). -/
def State.writeLane (s : State) (a : Nat) (r : RegRow) (m v : Word) : WriteOut :=
  if 0x800 ≤ a then
    let i := laneNo ((a - 0x800) / 128)
    if s.lanes[i].conv.isSome ∧ s.lanes[i].bankB = decide ((a - 0x800) / 64 % 2 = 1) then ⟨s.setFlag (F.LANE_FLAG_BKWX i), false, false, false⟩
    else ⟨s.setWord a v, false, false, false⟩
  else
    let i := laneNo ((a - 0x300) / 64)
    let k := (a - 0x300) % 64
    if k = 0x0D then ⟨if v.getLsbD 16 then s.put (F.LANE_DISAGREE_COUNT i) 0 else s, false, false, false⟩
    else if k = 0x0E then let o := s.hostLaneCommand i v; ⟨o.1, false, o.2, false⟩
    else ⟨s.plainWrite a r m v, false, false, false⟩

/-- Descriptors, filter profiles, threshold sets: words are staged, the last commits. -/
def State.writeChan (s : State) (a : Nat) (m v : Word) : State :=
  if a < 0x500 then
    if a % 4 = 3 then s.commitDesc ((a - 0x400) / 4) v else s.stageWord a (some (writableBits a v))
  else if a < 0x540 then
    if m = 0 then s
    else if a % 8 = 4 then s.commitProf ((a - 0x500) / 8) v else s.stageWord a (some (writableBits a v))
  else if m = 0 then s
  else if a % 8 = 3 then s.commitThr ((a - 0x540) / 8) v else s.stageWord a (some (writableBits a v))

/-- AFE, CAL, CURVE and OUT. -/
def State.writeCal (s : State) (acc : Accessor) (a : Nat) (r : RegRow) (m v : Word) : WriteOut :=
  if a = A.CRV_PD then let o := s.writeCurvePd acc v; ⟨o.2, o.1, false, false⟩
  else if a = A.CAL_STAT then ⟨if v.getLsbD 3 then s.put F.CAL_STAT_PREPL 0 else s, false, false, false⟩
  else if a = A.OUT_STAT then ⟨if v.getLsbD 16 then s.setBits a 0xFFFF 0 else s, false, false, false⟩
  else if a = A.OUT_SHCTL then ⟨if m = 0 then s else (s.plainWrite a r m v).settleShared, false, false, false⟩
  else ⟨s.plainWrite a r m v, false, false, false⟩

/-- HOST and TW. -/
def State.writeHost (s : State) (a : Nat) (r : RegRow) (m v : Word) : State :=
  if a = A.HST_ERRB then if v.getLsbD 0 then (s.setWord A.HST_ERRA 0).setWord A.HST_ERRB 0 else s
  else if a = A.TW_CTL then
    let s := if v.getLsbD 2 then (s.setWord A.TW_ERRA 0).setWord A.TW_ERRB 0 else s
    let s := (s.plainWrite a r m v).settleRole
    let c := F.TW_CTL_CMD.of (m &&& v)
    if c = 1 then s.yieldClaim else if c = 2 then s.retrain else s
  else if 0x794 ≤ a ∧ a < 0x798 then if v.getLsbD 17 then s.popMsg (secIx (a - 0x794)) else s
  else s.plainWrite a r m v

/-- NET. -/
def State.writeNet (s : State) (a : Nat) (r : RegRow) (m v : Word) : State :=
  if 0xA24 ≤ a ∧ a < 0xA28 then if v.getLsbD 17 then s.popRing (secIx (a - 0xA24)) else s
  else if a = A.NET_ERRC then
    if v.getLsbD 0 then
      ((((s.setWord A.NET_ERRA 0).setWord A.NET_ERRB 0).setWord A.NET_ERRC 0).put F.NET_STAT_LDOWN 0).put F.NET_TELEM_TDROP 0
    else s
  else s.plainWrite a r m v

/-- MEM, FLASH and OTP. -/
def State.writeMem (s : State) (acc : Accessor) (a : Nat) (r : RegRow) (m v : Word) : WriteOut :=
  if a = A.MEM_HECC then ⟨((s.plainWrite a r m v).clearOn v 3 F.MEM_HECC_SCNT).clearOn v 3 F.MEM_HECC_DCNT, false, false, false⟩
  else if a = A.MEM_THD then let o := s.writeThd acc v; ⟨o.2, o.1, false, false⟩
  else if a = A.MEM_VLOG then ⟨if v.getLsbD 17 then s.clearLog else s, false, false, false⟩
  else if 0xB10 ≤ a ∧ a < 0xB20 ∧ a % 4 = 2 then
    if s.hasUnit acc.sector 14 then ⟨s.submitFlash acc.sector v, false, false, false⟩ else ⟨s.refused acc, true, false, false⟩
  else if a = A.MEM_OTPD then ⟨if m = 0 then s else s.writeOtpd v, false, false, false⟩
  else ⟨s.plainWrite a r m v, false, false, false⟩

/-- The core-domain bits `m` of a write take effect. -/
def State.coreWrite (s : State) (acc : Accessor) (a : Nat) (r : RegRow) (m v : Word) : WriteOut :=
  if a < 0x100 then ⟨s.writeSys a r m v, false, false, false⟩
  else if a < 0x200 then ⟨s.writeSch a r m v, false, false, false⟩
  else if a < 0x300 then ⟨s.writeSec a r m v, false, false, false⟩
  else if a < 0x400 then s.writeLane a r m v
  else if a < 0x580 then ⟨s.writeChan a m v, false, false, false⟩
  else if a < 0x700 then s.writeCal acc a r m v
  else if a < 0x800 then ⟨s.writeHost a r m v, false, false, false⟩
  else if a < 0xA00 then s.writeLane a r m v
  else if a < 0xB00 then ⟨s.writeNet a r m v, false, false, false⟩
  else s.writeMem acc a r m v

/-! ## S fields: the post queue (06 R138, R140, 18 R450) -/

/-- The queue holds 8 entries. -/
def State.postsFull (s : State) : Bool := decide (8 ≤ s.pwr.posts.length)

def State.post (s : State) (acc : Accessor) (a : Nat) (m v : Word) : State :=
  { s with pwr := { s.pwr with posts := s.pwr.posts ++ [⟨a, m, v, acc, 0⟩] } }

/-- A PERIOD write: below 8 it is ignored; one that a loaded image does not fit is rejected with PREJ (01 R18, Table FRM-5). -/
def State.writePeriod (s : State) (acc : Accessor) (v : Word) : State :=
  if v.toNat < 8 then s
  else if !s.periodFits v.toNat then s.setFlag F.SCH_SYNC_PREJ
  else s.post acc A.SCH_FRAME (BitVec.allOnes 18) v

/-- A retired entry takes effect: its register's S bits, and what the write starts. -/
def State.commitPost (s : State) (p : Post) : State :=
  let a := p.addr
  let v := p.val
  if a = A.SCH_FRAME then { s with sch := { s.sch with periodPend := some v.toNat } }
  else if a = A.CLK_CTL then s.setClkCtl v
  else if a = A.LDG_STOREH then s.stageStore v
  else if a = A.LDG_STOREL then s.postStore v
  else if a = A.PWR_REPLACED then if v.getLsbD 16 then s.setBits a 0xFFFF 0 else s
  else if 0x0D8 ≤ a ∧ a < 0x0DC then if v.getLsbD 1 then s.put (F.LDG_REC_LOWCNT (a - 0x0D8)) 0 else s
  else if a = A.THERM_CHAT then if v.getLsbD 0 then (s.put F.THERM_CHAT_CHAT 0).put F.THERM_CHAT_CRITCNT 0 else s
  else if 0x200 ≤ a ∧ a < 0x280 ∧ a % 32 = 0x0B then s.kick (secIx ((a - 0x200) / 32)) v
  else if 0xA10 ≤ a ∧ a < 0xA20 then
    let n := secIx (a % 8 / 2)
    if a % 2 = 0 then s.stageSeq n (decide (0xA18 ≤ a)) v.toNat else s.commitSeq n (decide (0xA18 ≤ a)) v.toNat
  else match regAt a with
    | none => s
    | some (r, _) =>
      let s := s.plainWrite a r p.mask v
      if a = A.CLK_STAT then s.clearOn v 8 F.CLK_STAT_OSCSKIP
      else if a = A.LDG_TMAX then s.settleStale
      else if a = A.PWR_REGCTL then s.settleRegulator
      else s

/-- At a rising slow-clock edge the oldest entry commits, if it has been readable since the third edge after its write; the stale copies
then show it. -/
def execPostCommit (s : State) : Host.Outcome State Fault Refusal :=
  .next (
    match s.pwr.posts with
    | [] => s
    | p :: rest =>
      if p.age < 3 then s
      else (({ s with pwr := { s.pwr with posts := rest } }).commitPost p).refreshStale)

/-! ## A register write (04 R100, 18 R412) -/

/-- A program's post that finds the queue full is the breach POSTQ of its running segment (02 Table CON-8). -/
def State.postBreach (s : State) (n : Sector) : State :=
  match s.eng.cur with
  | some g => if g.sec = n then s.breachHere 3 0 else s.breach n 3 s.secs[n].tier s.secs[n].frame 0
  | none => s.breach n 3 s.secs[n].tier s.secs[n].frame 0

/-- The bits of a write that take effect act: S bits through the post queue, the others at once. -/
def State.actWrite (s : State) (acc : Accessor) (a : Nat) (r : RegRow) (m v : Word) : WriteOut :=
  let q := m &&& r.slowBits
  let o := if m &&& ~~~ q = 0 then ⟨s, false, false, false⟩ else s.coreWrite acc a r (m &&& ~~~ q) v
  if q = 0 then o
  else if a = A.SCH_FRAME then { o with state := o.state.writePeriod acc v }
  else { o with state := o.state.post acc a q v }

/-- A write by wrr or WRREG. Every write but one of SYS_KEY disarms the key once it has been judged; a host's write that finds the post
queue full is not made (13 R303). With CORE not ON the write strobes and the post queue's input are clamped to 0: nothing is written
(06 R142). -/
def State.writeReg (s : State) (acc : Accessor) (addr : BitVec 12) (v : Word) : WriteOut :=
  let a := resolve addr
  if !s.isOn .core then ⟨s, false, false, false⟩
  else if a = A.SYS_KEY then ⟨s.keyWrite acc v, false, false, false⟩ else
  match regAt a with
  | none => ⟨s.disarm, false, false, false⟩
  | some (r, ix) =>
    let j := s.judge acc a r (ix.headD 0) v
    if j.bits &&& r.slowBits ≠ 0 ∧ s.postsFull then
      if acc.isProg then ⟨s.disarm.postBreach acc.sector, false, false, true⟩ else ⟨s, false, false, true⟩
    else
      let s := s.disarm
      let s := if j.keyed then (s.bump F.SYS_KEYERR_KDN).log 8 acc.sector.val (keyIndex acc) 2 a else s
      let s := if j.denied then s.refused acc else s
      if j.denied || j.keyed then ⟨s, true, false, false⟩ else s.actWrite acc a r j.bits v

/-- The state after a register write. -/
def State.written (s : State) (acc : Accessor) (a : Nat) (v : Word) : State := (s.writeReg acc (BitVec.ofNat 12 a) v).state

/-! ## Commands that are register writes -/

def execRegisterWrite (acc : Accessor) (addr : BitVec 12) (v : Word) (s : State) : Host.Outcome State Fault Refusal :=
  .next (s.writeReg acc addr v).state

def execPeriodWrite (acc : Accessor) (v : Word) (s : State) : Host.Outcome State Fault Refusal := .next (s.written acc A.SCH_FRAME v)

def execStart (acc : Accessor) (n : Sector) (s : State) : Host.Outcome State Fault Refusal := .next (s.written acc (A.SEC_CTL n) 1)

def execStop (acc : Accessor) (n : Sector) (s : State) : Host.Outcome State Fault Refusal := .next (s.written acc (A.SEC_CTL n) 2)

def execCmdReset (acc : Accessor) (n : Sector) (s : State) : Host.Outcome State Fault Refusal := .next (s.written acc (A.SEC_CTL n) 3)

def execSecSupvWrite (acc : Accessor) (n : Sector) (v : Word) (s : State) : Host.Outcome State Fault Refusal :=
  .next (s.written acc (A.SEC_SUPV n) v)

def execSecDbellWrite (acc : Accessor) (n : Sector) (v : Word) (s : State) : Host.Outcome State Fault Refusal :=
  .next (s.written acc (A.SEC_DBELL n) v)

/-- An access to a data register whose pointer steps: a write of `v`, or a read. -/
def State.dataAccess (s : State) (acc : Accessor) (a : Nat) (v : Option Word) : State :=
  match v with
  | some w => s.written acc a w
  | none => (s.readReg acc (BitVec.ofNat 12 a)).state

/-- An access to CRV_PD (10 R254). -/
def execCrvPdAccess (acc : Accessor) (v : Option Word) (s : State) : Host.Outcome State Fault Refusal :=
  .next (s.dataAccess acc A.CRV_PD v)

/-- An access to MEM_THD (12 R294). -/
def execThermosDataAccess (acc : Accessor) (v : Option Word) (s : State) : Host.Outcome State Fault Refusal :=
  .next (s.dataAccess acc A.MEM_THD v)

/-- Word 3 of descriptor d written (08 R200). -/
def execDescriptorCommit (acc : Accessor) (d : Fin 64) (v : Word) (s : State) : Host.Outcome State Fault Refusal :=
  .next (s.written acc (A.DESC_W0 d + 3) v)

/-- Word 4 of filter profile p written (09 R216). -/
def execProfileCommit (acc : Accessor) (p : Fin 8) (v : Word) (s : State) : Host.Outcome State Fault Refusal :=
  .next (s.written acc (A.PROF_W4 p) v)

/-- Word 3 of threshold set t written (09 R229). -/
def execThresholdSetCommit (acc : Accessor) (t : Fin 8) (v : Word) (s : State) : Host.Outcome State Fault Refusal :=
  .next (s.written acc (A.THR_W3 t) v)

/-- SYS_RST.LRSTi (16 R377). -/
def execLaneReset (acc : Accessor) (i : LaneId) (s : State) : Host.Outcome State Fault Refusal :=
  .next (s.written acc A.SYS_RST (BitVec.ofNat 18 (2 ^ i.val)))

/-- SYS_RST.SOFT (16 R374). -/
def execSoft (acc : Accessor) (s : State) : Host.Outcome State Fault Refusal := .next (s.written acc A.SYS_RST 0x100)

/-- SYS_BLOAD written, and the load it starts carried out (16 R385); a load that a register write has started already is carried out. -/
def execGuestLoad (acc : Accessor) (v : Word) (s : State) : Host.Outcome State Fault Refusal :=
  .next (if s.boot.guest.isSome then s.finishGuest else (s.written acc A.SYS_BLOAD v).finishGuest)

def execGpFuncWrite (acc : Accessor) (g : Fin 8) (v : Word) (s : State) : Host.Outcome State Fault Refusal :=
  .next (s.written acc (A.PIN_GP g) v)

/-- TW_CTL.CMD = YIELD, with PREF and EN as they stand (14 R335). -/
def execYield (acc : Accessor) (s : State) : Host.Outcome State Fault Refusal :=
  .next (s.written acc A.TW_CTL (0x10000 ||| (s.word A.TW_CTL &&& 3)))

/-- TW_CTL.CMD = RETRAIN (14 R331). -/
def execRetrain (acc : Accessor) (s : State) : Host.Outcome State Fault Refusal :=
  .next (s.written acc A.TW_CTL (0x20000 ||| (s.word A.TW_CTL &&& 3)))

/-- TW_RXn.POP (14 R341). -/
def execTwRxPop (acc : Accessor) (n : Sector) (s : State) : Host.Outcome State Fault Refusal :=
  .next (s.written acc (0x794 + n) 0x20000)

/-- NET_RXn.POP (15 R365). -/
def execNetRxPop (acc : Accessor) (n : Sector) (s : State) : Host.Outcome State Fault Refusal :=
  .next (s.written acc (0xA24 + n) 0x20000)

/-- FL_CMDn written with operation `op` (12 R287, Table MEM-6). -/
def State.flashRequest (s : State) (acc : Accessor) (n : Sector) (op : Nat) (cntm1 : BitVec 6) : State :=
  s.written acc (A.FL_CMD n) (BitVec.ofNat 18 (op * 2 ^ 15 + cntm1.toNat * 2 ^ 9))

def execRead (acc : Accessor) (n : Sector) (cntm1 : BitVec 6) (s : State) : Host.Outcome State Fault Refusal :=
  .next (s.flashRequest acc n 1 cntm1)

def execProg (acc : Accessor) (n : Sector) (cntm1 : BitVec 6) (s : State) : Host.Outcome State Fault Refusal :=
  .next (s.flashRequest acc n 2 cntm1)

def execErase (acc : Accessor) (n : Sector) (cntm1 : BitVec 6) (s : State) : Host.Outcome State Fault Refusal :=
  .next (s.flashRequest acc n 3 cntm1)

def execAppend (acc : Accessor) (n : Sector) (cntm1 : BitVec 6) (s : State) : Host.Outcome State Fault Refusal :=
  .next (s.flashRequest acc n 4 cntm1)

def execRecent (acc : Accessor) (n : Sector) (cntm1 : BitVec 6) (s : State) : Host.Outcome State Fault Refusal :=
  .next (s.flashRequest acc n 5 cntm1)

/-- MEM_OTPD written (12 R293). -/
def execOtpProgram (acc : Accessor) (v : Word) (s : State) : Host.Outcome State Fault Refusal := .next (s.written acc A.MEM_OTPD v)

/-! ## Triplicated fields (13 R312, 18 R419) -/

/-- Fields of `k` bits each that tile bits lo to hi. -/
def tiles (k lo n : Nat) : List (Nat × Nat) := (List.range n).map fun j => (lo + k * j + k - 1, lo + k * j)

/-- The T fields of a register as Table MAP-15 counts them: votes and dispositions one by one. -/
def tripleFields (a : Nat) : List (Nat × Nat) :=
  if 0x040 ≤ a ∧ a < 0x050 then if a % 4 < 2 then tiles 2 0 9 else if a % 4 = 2 then tiles 2 0 4 else []
  else if a = A.PWR_REGCTL then [(1, 0)]
  else if a = A.SEC_QOS 0 then [(17, 8), (7, 4), (3, 0)]
  else if a = A.SEC_EQ 0 then [(17, 0)]
  else if a = A.SEC_LTQ 0 then [(9, 0)]
  else if a = A.OUT_DISP then tiles 2 0 6 ++ tiles 1 12 4
  else if a = A.OUT_AOSAFE 0 ∨ a = A.OUT_AOSAFE 1 then [(17, 0)]
  else if a = A.OUT_SHCTL then (11, 6) :: tiles 1 0 6
  else if a = A.TW_STAT then [(17, 16), (12, 12)]
  else if a = A.SYS_KEY then [(0, 0)]
  else if a = A.THERM_STAT then [(F.THERM_STAT_LEVEL.hi, F.THERM_STAT_LEVEL.lo)]
  else if a = A.NET_AUTH then tiles 2 0 4 ++ tiles 1 8 4
  else []

/-- The bits of a register's T fields. -/
def tripleBits (a : Nat) : Word := (tripleFields a).foldl (fun m p => m ||| (⟨a, p.1, p.2⟩ : Fld).mask) 0

/-- The T fields among whose copies some bit of `m` disagrees. -/
def disagreeing (a : Nat) (m : Word) : Nat := ((tripleFields a).filter fun p => decide ((⟨a, p.1, p.2⟩ : Fld).of m ≠ 0)).length

/-- Every T field whose copies disagree is rewritten to its majority, and counted. -/
def State.correctCopies (s : State) : State :=
  let n := (s.flips.map fun f => disagreeing f.addr (f.a ||| f.b ||| f.c)).sum
  ({ s with flips := [] }).put F.SYS_TMRFIX_COUNT (Nat.min (s.get F.SYS_TMRFIX_COUNT + n) 0xFFFF)

/-- Bits of the three copies flip. A bit flipped in two copies carries the majority with it. -/
def State.flipCopies (s : State) (u : Nat × Word × Word × Word) : State :=
  let (a, x, y, z) := u
  let t := tripleBits a
  let f := s.flips.find? fun f => decide (f.addr = a)
  let x := ((f.map (·.a)).getD 0 ^^^ x) &&& t
  let y := ((f.map (·.b)).getD 0 ^^^ y) &&& t
  let z := ((f.map (·.c)).getD 0 ^^^ z) &&& t
  let m := (x &&& y) ||| (x &&& z) ||| (y &&& z)
  let s := s.setWord a (s.word a ^^^ m)
  let g : Flip := ⟨a, x ^^^ m, y ^^^ m, z ^^^ m⟩
  if g.a ||| g.b ||| g.c = 0 then s else { s with flips := g :: s.flips }

/-- A rising slow-clock edge corrects the copies that disagree; `upsets` are the bits that flip in the copies of a register afterwards. -/
def execTmrCorrection (upsets : List (Nat × Word × Word × Word)) (s : State) : Host.Outcome State Fault Refusal :=
  .next (upsets.foldl State.flipCopies s.correctCopies)

end Sys2Proof.Machine
end

