-- ==== Sys2Proof/Machine/Control.lean ====
section
/-! DEFINITION. Slot X control flow, events and register syllables (04 R97 to R100), and a whole bundle's issue (03 R54 to R60, R71, R79 to
R81). -/

namespace Sys2Proof.Machine

/-! ## Control flow (03 R66 to R70) -/

/-- Change the running segment. -/
def State.onSeg (s : State) (f : RunSeg → RunSeg) : State :=
  match s.eng.cur with
  | none => s
  | some g => s.setSeg (f g)

/-- A taken redirect: its target issues three bundles later. -/
def RunSeg.redirect (g : RunSeg) (t : Nat) : RunSeg := { g with redirects := g.redirects ++ [(3, t)] }

def sylBr (_n : Sector) (off : BitVec 12) (s : State) : State := s.onSeg fun g => g.redirect (branchTarget g.pc off)

/-- Push a return address; a full stack loses its oldest entry and sets RSO. -/
def State.pushReturn (s : State) (n : Sector) (a : Nat) : State :=
  let st := s.secs[n].stack
  let s := if 4 ≤ st.length then s.setFlag (F.SEQ_FLAG_RSO n) else s
  s.onSec n fun x => { x with stack := (BitVec.ofNat 13 a :: st).take 4 }

def sylCall (n : Sector) (off : BitVec 12) (s : State) : State :=
  match s.eng.cur with
  | none => s
  | some g => sylBr n off (s.pushReturn n ((g.pc + 3) % 8192))

/-- ret: pop and branch; with an empty stack it is not taken and sets RSU. -/
def sylRet (n : Sector) (s : State) : State :=
  match s.secs[n].stack with
  | [] => s.setFlag (F.SEQ_FLAG_RSU n)
  | t :: st => (s.onSec n fun x => { x with stack := st }).onSeg fun g => g.redirect t.toNat

def sylSx (_n : Sector) (s : State) : State := s.onSeg fun g => { g with ending := true }

def sylFx (_n : Sector) (s : State) : State := s.onSeg fun g => { g with ending := true, cancel := true }

/-- wait latches the sector's PWR_REQ states (03 R70). -/
def sylWait (n : Sector) (s : State) : State := s.onSec n fun x => { x with latch := some (s.requests n) }

def execBr (off : BitVec 12) (s : State) : Host.Outcome State Fault Refusal := .next (issueAlone (fun n => sylBr n off) s)

def execCall (off : BitVec 12) (s : State) : Host.Outcome State Fault Refusal := .next (issueAlone (fun n => sylCall n off) s)

def execRet (_d _a _b : Fin 16) (s : State) : Host.Outcome State Fault Refusal := .next (issueAlone sylRet s)

def execSx (_d _a _b : Fin 16) (s : State) : Host.Outcome State Fault Refusal := .next (issueAlone sylSx s)

def execFx (_d _a _b : Fin 16) (s : State) : Host.Outcome State Fault Refusal := .next (issueAlone sylFx s)

def execWait (_d _a _b : Fin 16) (s : State) : Host.Outcome State Fault Refusal := .next (issueAlone sylWait s)

/-! ## Events and registers (04 R99, R100) -/

/-- The event number {a[0], b}. -/
def evtNo (a b : Fin 16) : Nat := 16 * (a.val % 2) + b.val

def sylEvt (n : Sector) (d a b : Fin 16) (s : State) : State :=
  (s.toP n 1 d (s.event n (evtNo a b))).dropEvent n (evtNo a b)

def sylEvw (n : Sector) (d b : Fin 16) (s : State) : State :=
  s.toW n 2 d (BitVec.ofNat 18 (if b.val % 2 = 0 then s.get (F.SEC_EVL_EV n) else s.get (F.SEC_EVH_EV n))) false

/-- The register address of rdr and wrr: (wA + imm4) mod 4096. -/
def regAddr (x : SectorSt) (a b : Fin 16) : BitVec 12 := (x.rdW a + BitVec.ofNat 18 b).setWidth 12

def sylRdr (n : Sector) (d a b : Fin 16) (s : State) : State :=
  let o := s.readReg (.prog n) (regAddr s.secs[n] a b)
  o.state.toW n 2 d o.word false

def sylWrr (n : Sector) (d a b : Fin 16) (s : State) : State :=
  (s.writeReg (.prog n) (regAddr s.secs[n] a b) (s.secs[n].rdW d)).state

def execEvt (d a b : Fin 16) (s : State) : Host.Outcome State Fault Refusal := .next (issueAlone (fun n => sylEvt n d a b) s)

def execEvw (d _a b : Fin 16) (s : State) : Host.Outcome State Fault Refusal := .next (issueAlone (fun n => sylEvw n d b) s)

def execRdr (d a b : Fin 16) (s : State) : Host.Outcome State Fault Refusal := .next (issueAlone (fun n => sylRdr n d a b) s)

def execWrr (d a b : Fin 16) (s : State) : Host.Outcome State Fault Refusal := .next (issueAlone (fun n => sylWrr n d a b) s)

/-! ## Slots (03 R56, 04 R111) -/

/-- The syllable in slot A with its immediate. -/
def slotA (n : Sector) (v : Word) (imm : Option Word) (s : State) : State :=
  let d := sylD v
  let a := sylA v
  let b := sylB v
  match sylOp v with
  | 0x00 => s
  | 0x01 => sylAdd n d a b imm s
  | 0x02 => sylSub n d a b imm s
  | 0x03 => sylAddi n d a b imm s
  | 0x04 => sylAdds n d a b imm s
  | 0x05 => sylSubs n d a b imm s
  | 0x06 => sylAnd n d a b imm s
  | 0x07 => sylOr n d a b imm s
  | 0x08 => sylXor n d a b imm s
  | 0x09 => sylAbs n d a b imm s
  | 0x0A => sylMin n d a b imm s
  | 0x0B => sylMax n d a b imm s
  | 0x0C => sylShli n d a b imm s
  | 0x0D => sylShri n d a b imm s
  | 0x0E => sylSrai n d a b imm s
  | 0x0F => sylShlv n d a b imm s
  | 0x10 => sylSrav n d a b imm s
  | 0x11 => sylSat n d a b imm s
  | 0x12 => sylCmpeq n d a b imm s
  | 0x13 => sylCmplt n d a b imm s
  | 0x14 => sylCmple n d a b imm s
  | 0x15 => sylCmpltu n d a b imm s
  | 0x16 => sylPand n d a b imm s
  | 0x17 => sylPor n d a b imm s
  | 0x18 => sylPxor n d a b imm s
  | _ => sylSlotx n s

/-- The syllable in slot K with its immediate. -/
def slotK (n : Sector) (v : Word) (imm : LongImm) (s : State) : State :=
  let d := sylD v
  let a := sylA v
  let b := sylB v
  match sylOp v with
  | 0x00 => s
  | 0x19 => sylMul n d a b imm s
  | 0x1A => sylMac n d a b imm s
  | 0x1B => sylMsu n d a b imm s
  | 0x1C => sylMova n d a b imm s
  | 0x1D => sylAdda n d a b imm s
  | 0x1E => sylSuba n d a b imm s
  | 0x1F => sylMovia n d a b imm s
  | 0x20 => sylAsr n d a b imm s
  | 0x21 => sylExt n d a b imm s
  | 0x22 => sylExth n d a b imm s
  | 0x23 => sylExtl n d a b imm s
  | _ => sylSlotx n s

/-- The syllable in slot M. -/
def slotM (n : Sector) (v : Word) (s : State) : State :=
  let d := sylD v
  let a := sylA v
  let b := sylB v
  match sylOp v with
  | 0x00 => s
  | 0x24 => sylLd n d a b s
  | 0x25 => sylLdPostinc n d a b s
  | 0x26 => sylSt n d a b s
  | 0x27 => sylStPostinc n d a b s
  | 0x28 => sylLdd n d a b s
  | 0x29 => sylStd n d a b s
  | _ => sylSlotx n s

/-- Opcode 37h: iexc, vexc, tia by d; other values of d are no syllable (04 R104). -/
def slotExc (n : Sector) (d a : Fin 16) (s : State) : State :=
  if h : d.val < 4 then sylIexc n ⟨d, h⟩ a s
  else if d = 4 then sylVexc n a s
  else if h : d.val < 7 ∧ 5 ≤ d.val then sylTia n ⟨d - 5, by omega⟩ a s
  else sylSlotx n s

/-- Opcode 39h: fsw, aout, aoctl by d. -/
def slotOut (n : Sector) (d a b : Fin 16) (s : State) : State :=
  if h : d.val < 4 then if b.val < 3 then sylFsw ⟨d, h⟩ b n s else sylSlotx n s
  else if h : d.val < 6 ∧ 4 ≤ d.val then sylAout ⟨d - 4, by omega⟩ a n s
  else if h : d.val < 8 ∧ 6 ≤ d.val then sylAoctl ⟨d - 6, by omega⟩ a n s
  else sylSlotx n s

/-- The syllable in slot X. -/
def slotX (n : Sector) (v : Word) (s : State) : State :=
  let d := sylD v
  let a := sylA v
  let b := sylB v
  match sylOp v with
  | 0x00 => s
  | 0x2A => sylBr n (sylOffset v) s
  | 0x2B => sylCall n (sylOffset v) s
  | 0x2C => sylRet n s
  | 0x2D => sylSx n s
  | 0x2E => sylFx n s
  | 0x2F => sylWait n s
  | 0x30 => sylEvt n d a b s
  | 0x31 => sylEvw n d b s
  | 0x32 => sylRdr n d a b s
  | 0x33 => sylWrr n d a b s
  | 0x34 => sylLaneOp n d a b s
  | 0x35 => sylPop n d b s
  | 0x36 => sylPhdr n d b s
  | 0x37 => slotExc n d a s
  | 0x38 => sylCalq n d a s
  | 0x39 => slotOut n d a b s
  | 0x3A => sylCrv n d a b s
  | 0x3B => sylLka n d a b s
  | 0x3C => sylLkr n d a b s
  | 0x3D => sylNsend n d a b s
  | 0x3E => sylTsend n d a b s
  | _ => sylSlotx n s

/-- The syllables of a bundle in the order A, K, M, X; a slot that carries an immediate performs no operation (03 R59, R65). -/
def runSlots (n : Sector) (p : BundleParts) (s : State) : State :=
  let s := slotK n p.slotK p.immK (slotA n p.slotA p.immA s)
  let s := if p.mIsSyl then slotM n p.slotM s else s
  if p.xIsSyl then slotX n p.slotX s else s

/-! ## Fetch (03 R71, R79 to R81) -/

/-- The absolute address of a fetch, none outside the sector's region. -/
def State.fetchAddr (s : State) (n : Sector) (pc : Nat) : Option Nat :=
  if s.isSet (F.SEC_IMEM_IEN n) ∧ pc < s.regionLength n then some (256 * s.get (F.SEC_IMEM_IBASE n) + pc) else none

def State.bundleAt (s : State) (p : Nat) : Bundle := storeRead (fun _ => (0 : Bundle)) s.eng.imem p

/-- A fetch whose error was corrected. -/
def State.fetchCorrected (s : State) (n : Sector) (p : Nat) : State :=
  let s := ((s.bump F.SEQ_IECC_SBE).put F.SEQ_IECC_ADDR p).setFlag (F.SEQ_FLAG_IMSEC n)
  if p ∈ s.eng.imemFix then s else { s with eng := { s.eng with imemFix := s.eng.imemFix ++ [p] } }

/-- An uncorrectable fetch: the segment is force-ended and the sector's reset with cause IMEM_DED is called for. -/
def State.fetchDamaged (s : State) (n : Sector) (p : Nat) : State :=
  let s := (((s.setFlag F.SEQ_IECC_DED).put F.SEQ_IECC_ADDR p)).callReset n 5
  { s with eng := { s.eng with cur := none, drain := some n } }

/-- The fetch of the running segment's next bundle: the bundle it issues, none after an uncorrectable error. With IMEM not ON its data and
error flags are clamped to 0 (06 R142). -/
def State.fetch (s : State) (n : Sector) (pc : Nat) (upset : Upset) : Option Bundle × State :=
  match s.fetchAddr n pc with
  | none => (some 0, s.setFlag (F.SEQ_FLAG_IFLT n))
  | some p =>
    if !s.isOn .imem then (some 0, s) else
    let s := if upset = .none then s else
      { s with eng := { s.eng with imemUpset := storeWrite (fun _ => Upset.none) s.eng.imemUpset p upset } }
    match storeRead (fun _ => Upset.none) s.eng.imemUpset p with
    | .none => (some (s.bundleAt p), s)
    | .single => (some (s.bundleAt p), s.fetchCorrected n p)
    | .double => (none, s.fetchDamaged n p)
    | .beyond =>
      let (k, s) := s.fresh
      match Config.beyondEccKind k with
      | 0 => (some (Config.beyondEccBundle k), s.fetchCorrected n p)
      | 1 => (none, s.fetchDamaged n p)
      | 2 => (some (Config.beyondEccBundle k), s)

/-- A bundle executes when its predicate differs from NEG (03 R57). -/
def BundleParts.runs (p : BundleParts) (x : SectorSt) : Bool := x.rdP p.pred != p.neg

/-- A fetched bundle issues: its syllables execute under its predicate, END ends the segment whatever the predicate is. -/
def issueBundle (n : Sector) (v : Bundle) (s : State) : State :=
  let p := splitBundle v
  let s := s.copyCycle
  let s := if p.runs s.secs[n] then runSlots n p s else s
  let s := if p.endBit then s.onSeg fun g => { g with ending := true } else s
  s.closeBundle

/-- The running segment fetches and issues its next bundle; `upset` are the bits that have flipped in it. -/
def execBundleIssue (upset : Upset) (s : State) : Host.Outcome State Fault Refusal :=
  .next (
    match s.eng.cur with
    | none => s
    | some g =>
      if g.held then s else
      let (s, g) := s.leaveSlot g
      (s.setSeg g).inOneCycle fun s =>
        match s.fetch g.sec g.pc upset with
        | (none, s) => s
        | (some v, s) => issueBundle g.sec v s)

end Sys2Proof.Machine
end

