-- ==== Sys2Proof/Machine/Host.lean ====
section
/-! DEFINITION. The host port (13): header and data checks, acceptance, the answer, service in bookings and direct service, images for the
flash slots, violations, and the port's timers. -/

namespace Sys2Proof.Machine

def State.onHost (s : State) (f : HostPort → HostPort) : State := { s with host := f s.host }

/-- CRC-8 of 13 R298. -/
def crc8 (l : List Byte) : Byte := crcMsb 0x07 0xFF l

/-! ## Violations (13 R315) -/

/-- The counter of a violation code of Table HST-5. -/
def violationCounter (code : Nat) : Option Fld :=
  match code with
  | 1 => some F.HST_ERRA_HDRC
  | 2 => some F.HST_ERRA_DATC
  | 3 => some F.HST_ERRA_ILLC
  | 4 => some F.HST_ERRB_BUSYC
  | 5 => some F.HST_ERRB_DENC
  | 6 => some F.HST_ERRB_RNGC
  | 7 => some F.HST_ERRB_TRUNC
  | 8 => some F.HST_ERRB_LONG
  | 10 => some F.HST_ERRB_UNCOLL
  | _ => none

/-- A violation counts; the first of its code in the frame is logged with the CMD byte and the bytes received, codes 08h and 0Ah are not. -/
def State.hostViolation (s : State) (code : Nat) (sect : Sector) (cmd : Byte) (bytes : Nat) : State :=
  let s := match violationCounter code with
    | some f => s.bump f
    | none => s
  if code = 8 ∨ code = 10 ∨ code ∈ s.host.logged then s
  else (s.onHost fun h => { h with logged := code :: h.logged }).log 2 sect 0 code (cmd.toNat * 256 + bytes % 256)

/-- The violation code that goes with a status code of Table HST-3. -/
def violationOf (status : Nat) : Nat :=
  match status with
  | 2 => 1
  | 3 => 2
  | 8 => 3
  | 1 => 4
  | 4 => 5
  | _ => 6

/-! ## The header (13 R298, Table HST-1) -/

/-- Byte 0. -/
def headCmd (op : Nat) (h : HostHead) : Byte := BitVec.ofNat 8 (16 * op + 4 * h.sect.val + h.width.val)

/-- CNT; 0 means 256. -/
def headCount (h : HostHead) : Nat := if h.cnt = 0 then 256 else h.cnt.toNat

def headBytes (cmd : Byte) (addr : BitVec 16) (cnt : Byte) : List Byte :=
  [cmd, BitVec.ofNat 8 (addr.toNat / 256), BitVec.ofNat 8 addr.toNat, cnt]

/-- HCRC matches. -/
def headOk (cmd : Byte) (addr : BitVec 16) (cnt hcrc : Byte) : Bool := decide (crc8 (headBytes cmd addr cnt) = hcrc)

/-- Checks 1 and 2 of Table HST-3 on a header: 0 where both pass. -/
def headStatus (cmd : Byte) (addr : BitVec 16) (cnt hcrc : Byte) : Nat :=
  let op := cmd.toNat / 16
  if !headOk cmd addr cnt hcrc then 2
  else if op = 0 ∨ 9 ≤ op ∨ 2 ≤ cmd.toNat % 4 ∨ (op = 7 ∧ addr.toNat / 2 ^ 13 % 4 = 3) then 8
  else 0

/-! ## Checks of a request (13 Tables HST-2, HST-3) -/

/-- The action of an IMGLD: 0 WRITE, 1 ERASE, 2 LOAD. -/
def imgldAction (addr : BitVec 16) : Nat := addr.toNat / 2 ^ 13 % 4

/-- Check 4: R121 refuses SECT, RDSTRM names a lane not granted to it (R308), or IMGLD is refused (R307). -/
def State.hostDenied (s : State) (op : Nat) (h : HostHead) : Bool :=
  (s.isSet F.SEC_HATT_RESTRICT && decide (s.get F.SEC_HATT_SECT ≠ h.sect.val)) ||
  (decide (op = 5 ∧ h.sect ≠ 0) && !s.hasLane h.sect (laneNo h.addr.toNat)) ||
  (decide (op = 7) &&
    (s.isSet F.SEC_HATT_RESTRICT || s.boot.policy.hostnold || decide (imgldAction h.addr ≠ 2 ∧ h.sect ≠ 0)))

/-- Check 5: the limits of Table HST-2; an ADDR bit that is to be zero is not. -/
def State.hostOutside (s : State) (op : Nat) (h : HostHead) : Bool :=
  let a := h.addr.toNat
  let c := headCount h
  let beyond : Bool := decide (a / 2 ^ 15 = 0 ∧ 0xFFF < a % 2 ^ 12 + c - 1)
  match op with
  | 1 => decide (a / 2 ^ 12 % 8 ≠ 0) || beyond
  | 2 => decide (a / 2 ^ 12 % 4 ≠ 0 ∨ (a / 2 ^ 14 % 2 = 1 ∧ c % 2 = 1)) || beyond
  | 3 => decide (1024 * s.get (F.SEC_WIN_GLEN h.sect) < a + c)
  | 4 => decide (1024 * s.get (F.SEC_WIN_GLEN h.sect) < a + c)
  | 5 => decide (16 ≤ a ∨ 64 < c)
  | 7 =>
    match imgldAction h.addr with
    | 0 => decide (c % 16 ≠ 0 ∨ 8192 < a % 2 ^ 13 + 3 * c / 16)
    | 1 => decide (a % 256 ≠ 0 ∨ c ≠ 1)
    | _ => decide (c ≠ 1)
  | _ => false

/-- Checks 1 to 5, in table order: the first failing check's status code, 0 when all pass. STATUS and ECHO pass checks 3 to 5. -/
def State.hostCheck (s : State) (op : Nat) (h : HostHead) : Nat :=
  let k := headStatus (headCmd op h) h.addr h.cnt h.hcrc
  if k ≠ 0 then k
  else if op = 6 ∨ op = 8 then 0
  else if s.host.state = 1 then 1
  else if s.hostDenied op h then 4
  else if s.hostOutside op h then 6
  else 0

/-! ## Frames (13 R297, R300, R302, R310) -/

/-- A header arrived whose CRC matches: the silence of the host ends. -/
def State.hostHeard (s : State) : State := s.onHost fun h => { h with silence := 0 }

/-- HCS# rises after a frame: the hold of a raise begins again (06 R154). -/
def State.frameEnd (s : State) : State := (s.onHost fun h => { h with selected := false }).touch 0

/-- The state byte T (13 Table HST-4). -/
def State.stateByte (s : State) : Byte :=
  let t := s.host.txn
  match s.host.state with
  | 0 => 0
  | 1 => BitVec.ofNat 8 (64 + 16 * t.sect.val + t.op)
  | _ => BitVec.ofNat 8 (128 + 16 * t.sect.val + t.op)

/-- What the device drives in a frame of `bytes` request bytes and then `after` (13 R300): in single width T in byte 0 and 00h in the others
that the host drives, or, after a header that fails a check, its code in each later one; in quad width (`width` 01b) nothing before
`after`. -/
def State.driven (s : State) (width : Nat) (bytes : Nat) (failed : Option Nat) (after : List Byte) : List Byte :=
  if width = 1 then after
  else (s.stateByte :: List.replicate 4 0).take bytes ++ List.replicate (bytes - 5) (BitVec.ofNat 8 (failed.getD 0)) ++ after

/-- The line as a frame left it. -/
def State.setLine (s : State) (l : List Byte) : State := s.onHost fun h => { h with line := l }

/-- Request bytes of a frame: the header, then data and their CRC for an opcode that carries them (13 Table HST-2). -/
def requestBytes (op : Nat) (h : HostHead) : Nat :=
  if op = 2 ∨ op = 4 ∨ op = 8 ∨ (op = 7 ∧ imgldAction h.addr = 0) then 6 + 3 * headCount h else 5

/-- A frame rejected with a status code after `bytes` bytes: the code is driven, in every byte after a header that fails a check, the violation
counts; an uncollected answer stays. -/
def State.rejectFrame (s : State) (status : Nat) (sect : Sector) (cmd : Byte) (bytes : Nat) : State :=
  let s := if status = 2 then s else s.hostHeard
  let failed := if status = 3 then none else some status
  let s := s.setLine (s.driven (cmd.toNat % 4) bytes failed [BitVec.ofNat 8 status])
  (s.onHost fun h => { h with ack := status }).hostViolation (violationOf status) sect cmd bytes

/-- Clocks came after the last byte (R302). -/
def State.longFrame (s : State) (long : Bool) : State := if long then s.bump F.HST_ERRB_LONG else s

/-- The header fails check 1 or 2. One that fails neither is no rejected header, and one the port does not see changes nothing in it. -/
def execHostHeaderReject (cmd : Byte) (addr : BitVec 16) (cnt hcrc : Byte) (s : State) : Host.Outcome State Fault Refusal :=
  let k := headStatus cmd addr cnt hcrc
  .next (if !s.isOn .host ∨ k = 0 then s.frameEnd else (s.rejectFrame k (secIx (cmd.toNat / 4)) cmd 5).frameEnd)

/-- HCS# falls: a frame begins, in mode 3 when HSCK is high; with its source enabled it raises HOST (06 R154). -/
def execHcsFall (mode3 : Bool) (s : State) : Host.Outcome State Fault Refusal :=
  let s := s.onHost fun h => { h with selected := true, mode3 := mode3 }
  .next (s.raiseDom 0 4 2)

/-- HCS# rises before the last request byte, after `n` bytes of which `cmd` was the first; `failed` is the code of a header that failed a
check, and `heard` tells that a header was received whose CRC matched, which ends the host's silence (13 R310). -/
def State.truncated (s : State) (cmd : Byte) (n : Nat) (failed : Option Nat) (heard : Bool) : State :=
  let s := if heard then s.hostHeard else s
  (s.setLine (s.driven (cmd.toNat % 4) n failed [])).hostViolation 7 (secIx (cmd.toNat / 4)) cmd n

def execTrunc (cmd : Byte) (n : Nat) (s : State) (heard : Bool := false) : Host.Outcome State Fault Refusal :=
  .next (if s.isOn .host then (s.truncated cmd n none (heard && decide (5 ≤ n))).frameEnd else s.frameEnd)

/-! ## The answer (13 R305, R306, Table HST-4) -/

/-- Four words in nine bytes (00 R9). -/
def packNine (w x y z : Word) : List Byte := beBytes 9 ((w ++ x ++ y ++ z : BitVec 72)).toNat

/-- Words in the packed stream format, padded with zero words. -/
def packWords : List Word → List Byte
  | w :: x :: y :: z :: l => packNine w x y z ++ packWords l
  | [w, x, y] => packNine w x y 0
  | [w, x] => packNine w x 0 0
  | [w] => packNine w 0 0 0
  | [] => []

/-- NW: the answer words; for an aborted write the words served. -/
def HostTxn.nw (t : HostTxn) : Nat := if t.op = 2 ∨ t.op = 4 then (if t.code = 7 then t.served else 0) else t.answer.length

/-- The answer as the state stands: S, T, NW, the words, ACRC. -/
def State.answerBytes (s : State) : List Byte :=
  let t := s.host.txn
  let body : List Byte :=
    match s.host.state with
    | 0 => [0, s.stateByte, 0, 0]
    | 1 => [1, s.stateByte, 0, 0]
    | _ =>
      [BitVec.ofNat 8 (128 * bit t.copy + t.code), s.stateByte] ++ beBytes 2 t.nw ++
        (if t.op = 5 ∧ t.addr.toNat / 8 % 2 = 1 then packWords t.answer else (t.answer.map wordBytes).flatten)
  body ++ [crc8 body]

/-- The transaction and its answer are gone: IDLE. -/
def State.hostIdle (s : State) : State := s.onHost fun h => { h with state := 0, txn := {}, doneTicks := 0, direct := false }

/-- A STATUS frame: the answer is driven, ABORT stops a PENDING transaction, and a DONE one is released when `release` holds, which needs
RELEASE = 1 and HCS# low through the last bit of ACRC. -/
def State.statusFrame (s : State) (h : HostHead) (release : Bool) : State :=
  if !s.isOn .host then s.frameEnd else
  let k := s.hostCheck 6 h
  if k ≠ 0 then ((s.rejectFrame k h.sect (headCmd 6 h) 5).longFrame h.long).frameEnd else
  let s := s.hostHeard
  let b := s.answerBytes
  let s := s.setLine (s.driven h.width 5 none b)
  let was := s.host.state
  let s := s.onHost fun p => { p with ack := (b.getD 0 0).toNat, out := b }
  let s := if h.addr.getLsbD 1 then s.abortTxn else s
  let s := if release && h.addr.getLsbD 0 && decide (was = 2) then s.hostIdle else s
  (s.longFrame h.long).frameEnd

/-- Without `long` the frame ends before ACRC does, or carries no RELEASE. -/
def execStatus (h : HostHead) (s : State) : Host.Outcome State Fault Refusal := .next (s.statusFrame h h.long)

/-- A STATUS frame collected whole. -/
def execRelease (h : HostHead) (s : State) : Host.Outcome State Fault Refusal := .next (s.statusFrame h true)

/-- A STATUS frame with ABORT. -/
def execAbort (h : HostHead) (s : State) : Host.Outcome State Fault Refusal := .next (s.statusFrame h h.long)

/-! ## Acceptance (13 R301 to R303) -/

/-- A transaction becomes PENDING, or DONE at once for ECHO; an uncollected answer is discarded, and a PENDING transaction that ECHO takes the
place of is gone, its image operation with it. With no sector RUNNING the core is woken for direct service. -/
def State.acceptTxn (s : State) (op : Nat) (h : HostHead) (data : List Byte) : State :=
  let s := if s.host.state = 2 then s.hostViolation 10 h.sect (headCmd op h) 0 else if s.host.state = 1 then s.orphanImage else s
  let words := if op = 7 then [] else bytesWords data
  let direct := !sectors.any s.running
  let t : HostTxn := { op := op, sect := h.sect, addr := h.addr, cnt := headCount h, words := words, bytes := if op = 7 then data else [] }
  if op = 8 then s.onHost fun p => { p with state := 2, txn := { t with answer := words, served := headCount h }, doneTicks := 0, direct := false }
  else
    let s := s.onHost fun p => { p with state := 1, txn := t, doneTicks := 0, direct := direct }
    if direct then s.startWake 0 [] else s

/-- A request is accepted: OK is driven in the ACK byte. -/
def State.acceptRequest (s : State) (op : Nat) (h : HostHead) (data : List Byte) : State :=
  let s := s.hostHeard
  let s := s.setLine (s.driven h.width (requestBytes op h) none [0])
  (s.onHost fun p => { p with ack := 0 }).acceptTxn op h data

/-- A request frame; `data` are its host data bytes and their CRC where the opcode carries data. One that ends before its data does is
truncated, whatever its header; else the first failing check rejects it, a mismatch of the data CRC last. -/
def State.requestFrame (s : State) (op : Nat) (h : HostHead) (data : Option (List Byte × Byte)) : State :=
  if !s.isOn .host then s.frameEnd else
  let cmd := headCmd op h
  let k := s.hostCheck op h
  let need := 3 * headCount h
  let l := (data.map (·.1)).getD []
  if data.isSome ∧ l.length < need then
    (s.truncated cmd (5 + l.length) (if k = 0 then none else some k) (decide (k ≠ 2))).frameEnd
  else
    let s :=
      if k ≠ 0 then s.rejectFrame k h.sect cmd (requestBytes op h)
      else if data.any fun d => decide (crc8 (l.take need) ≠ d.2) then s.rejectFrame 3 h.sect cmd (requestBytes op h)
      else s.acceptRequest op h (l.take need)
    (s.longFrame h.long).frameEnd

def execRdreg (h : HostHead) (s : State) : Host.Outcome State Fault Refusal := .next (s.requestFrame 1 h none)

def execWrreg (h : HostHead) (data : List Byte) (dcrc : Byte) (s : State) : Host.Outcome State Fault Refusal :=
  .next (s.requestFrame 2 h (some (data, dcrc)))

def execRdmem (h : HostHead) (s : State) : Host.Outcome State Fault Refusal := .next (s.requestFrame 3 h none)

def execWrmem (h : HostHead) (data : List Byte) (dcrc : Byte) (s : State) : Host.Outcome State Fault Refusal :=
  .next (s.requestFrame 4 h (some (data, dcrc)))

def execRdstrm (h : HostHead) (s : State) : Host.Outcome State Fault Refusal := .next (s.requestFrame 5 h none)

/-- A header whose action bits are replaced: the row names the action. -/
def withAction (k : Nat) (h : HostHead) : HostHead :=
  { h with addr := BitVec.ofNat 16 (h.addr.toNat / 2 ^ 15 * 2 ^ 15 + k * 2 ^ 13 + h.addr.toNat % 2 ^ 13) }

def execImgldWrite (h : HostHead) (data : List Byte) (dcrc : Byte) (s : State) : Host.Outcome State Fault Refusal :=
  .next (s.requestFrame 7 (withAction 0 h) (some (data, dcrc)))

def execImgldErase (h : HostHead) (s : State) : Host.Outcome State Fault Refusal := .next (s.requestFrame 7 (withAction 1 h) none)

def execImgldLoad (h : HostHead) (s : State) : Host.Outcome State Fault Refusal := .next (s.requestFrame 7 (withAction 2 h) none)

def execEcho (h : HostHead) (data : List Byte) (dcrc : Byte) (s : State) : Host.Outcome State Fault Refusal :=
  .next (s.requestFrame 8 h (some (data, dcrc)))

/-! ## Service (13 R303, R306 to R309) -/

def State.onTxn (s : State) (f : HostTxn → HostTxn) : State := s.onHost fun h => { h with txn := f h.txn }

/-- DENIED ranks above OWNED, and OWNED above OK. -/
def worse (code : Nat) (denied owned : Bool) : Nat := if denied || decide (code = 4) then 4 else if owned || decide (code = 5) then 5 else code

/-- A word is served: read, written, refused or owned, with an answer word where the opcode reads. -/
def HostTxn.serve (t : HostTxn) (denied owned copy : Bool) (ans : Option Word) : HostTxn :=
  { t with served := t.served + 1, code := worse t.code denied owned, copy := t.copy || copy, answer := t.answer ++ ans.toList }

/-- The register that word `i` of a transaction names. -/
def HostTxn.register (t : HostTxn) (i : Nat) : BitVec 12 :=
  let base := t.addr.toNat % 4096
  let step := if t.addr.getLsbD 15 then 0 else if t.op = 2 ∧ t.addr.getLsbD 14 then i / 2 else i
  if t.op = 2 ∧ t.addr.getLsbD 14 ∧ i % 2 = 0 then BitVec.ofNat 12 A.SYS_KEY else BitVec.ofNat 12 (base + step)

/-- The stream entries RDSTRM removes are taken at its first word, as words to serve: none from a lane whose domain is OFF (R308). -/
def State.takeStream (s : State) : State :=
  let t := s.host.txn
  let i := laneNo t.addr.toNat
  let x := s.lanes[i].stream
  let out := if (s.dom (.lane i)).state = .off then [] else x.take t.cnt
  let words := out.flatMap fun e => if t.addr.getLsbD 2 then [e.header, e.value] else [e.value]
  let s := s.onLane i fun l => { l with stream := x.drop out.length }
  s.onTxn fun t => { t with taken := true, words := words, cnt := words.length, copy := t.copy || (!words.isEmpty && !s.isOn (.lane i)) }

/-- The next word of a window transaction lies in a bank that is not ON: it is not served yet, the floor of 06 Table PWR-5 raising the bank
(R307). -/
def State.hostBankDown (s : State) : Bool :=
  let t := s.host.txn
  let ea := t.addr.toNat + t.served
  decide ((t.op = 3 ∨ t.op = 4) ∧ ea < 1024 * s.get (F.SEC_WIN_GLEN t.sect) ∧ s.get (F.SEC_WIN_GBASE t.sect) * 1024 + ea < 65536) &&
    (s.inWindow t.sect ea).isNone

/-- The next word of the transaction; none where it must wait, the post queue being full or its bank not ON. -/
def State.serveWord (s : State) : Option State :=
  let t := s.host.txn
  let acc := Accessor.host t.sect
  if s.hostBankDown then none else
  match t.op with
  | 1 =>
    let a := t.register t.served
    let o := s.readReg acc a
    some (o.state.onTxn fun t => t.serve o.denied false (!o.denied && s.isCopy (resolve a)) (some o.word))
  | 2 =>
    let a := t.register t.served
    let o := s.writeReg acc a (t.words.getD t.served 0)
    if o.full then none else
    some (if o.state.host.state = 1 then o.state.onTxn fun t => t.serve o.denied o.owned (!o.denied && s.isCopy (resolve a)) none else o.state)
  | 3 =>
    match s.inWindow t.sect (t.addr.toNat + t.served) with
    | some p => let (w, s) := s.readHamper p; some (s.onTxn fun t => t.serve false false false (some w))
    | none => some (s.onTxn fun t => t.serve false false false (some 0))
  | 4 =>
    let s := match s.inWindow t.sect (t.addr.toNat + t.served) with
      | some p => s.writeHamper p (t.words.getD t.served 0)
      | none => s
    some (s.onTxn fun t => t.serve false false false none)
  | _ => some (s.onTxn fun t => t.serve false false false (some (t.words.getD t.served 0)))

/-- Words of a smallest split part: a key word goes with the word after it (R303). -/
def HostTxn.grain (t : HostTxn) : Nat := if t.op = 2 ∧ t.addr.getLsbD 14 then 2 else 1

/-- A split part served whole, or none. -/
def State.servePart (s : State) : Option State :=
  match s.serveWord with
  | none => none
  | some t => if s.host.txn.grain = 2 ∧ t.host.state = 1 then t.serveWord else some t

/-- The last word has been served: DONE. -/
def State.hostDone (s : State) : State :=
  if s.host.state = 1 then s.onHost fun h => { h with state := 2, doneTicks := 0, direct := false } else s

/-- Parts served one after another, at most `k`, while the transaction is PENDING and a word is left. -/
def serveParts : Nat → State → State
  | 0, s => s
  | k + 1, s =>
    if s.host.state ≠ 1 ∨ s.host.txn.cnt ≤ s.host.txn.served then s else
    match s.servePart with
    | none => s
    | some t => serveParts k t

/-- Words that the HBW share leaves the target sector in the frame (05 R124). -/
def State.hostShareLeft (s : State) (n : Sector) : Nat :=
  let b := s.get (F.SEC_QOS_HBW n)
  if b = 0 then 512 else 16 * b - s.secs[n].hostWords

/-- An IMGLD enters the flash queue, or waits for an entry (R309). -/
def State.submitImage (s : State) : State :=
  let t := s.host.txn
  if t.inFlash || s.flashFull then s else
  let a := t.addr.toNat
  let g := a / 2 ^ 15 * 8192 + a % 2 ^ 13
  let k := imgldAction t.addr
  let o := flashOp (8 + k) 0 g (if k = 2 then t.sect.val else 0) (if k = 0 then 3 * t.cnt / 16 else 1) t.bytes
  (s.onTxn fun t => { t with inFlash := true }).enqueueFlash { o with port := true }

/-- At most `words` words of the PENDING transaction are served; with its last word it is DONE. A write may have reset the device, which
ends it. -/
def State.serveTxn (s : State) (words : Nat) : State :=
  if s.host.txn.op = 7 then s.submitImage else
  let n := s.host.txn.sect
  let s := if s.host.txn.op = 5 ∧ !s.host.txn.taken then s.takeStream else s
  let was := s.host.txn.served
  let s := serveParts (Nat.min words (s.hostShareLeft n) / s.host.txn.grain) s
  if s.host.state ≠ 1 then s else
  let s := s.onSec n fun x => { x with hostWords := x.hostWords + (s.host.txn.served - was) }
  if s.host.txn.cnt ≤ s.host.txn.served then s.hostDone else s

/-- Words the next HOST booking may serve in `room` cycles: 8 and 2 a word. -/
def hostWordsIn (room : Nat) : Nat := (room - 8) / 2

/-- A HOST booking is possible: the transaction is PENDING, its next word's bank is ON, its part fits the window and the share. -/
def State.hostPending (s : State) : Bool :=
  decide (s.host.state = 1) && !s.host.direct && !s.host.txn.inFlash && !s.hostBankDown &&
    decide (s.host.txn.grain ≤ hostWordsIn (s.slotRoom 0) ∧ s.host.txn.grain ≤ s.hostShareLeft s.host.txn.sect)

/-- A HOST booking of the running slot, for the transaction's target sector (02 Table CON-7). -/
def execHostBooking (s : State) : Host.Outcome State Fault Refusal :=
  if !s.hostPending then .next s else
  let n := s.host.txn.sect
  let was := s.host.txn.served
  let t := s.serveTxn (hostWordsIn (s.slotRoom 0))
  if t.host.state = 0 then .next t else
  let k := if s.host.txn.op = 7 then 1 else t.host.txn.served - was
  if k = 0 ∧ t.host.state = 1 then .next t else .next (t.book n (8 + 2 * k))

/-- Back-to-back bookings with no sector RUNNING; an image operation goes on in FLASH bookings of its own. -/
def execHostDirectService (s : State) : Host.Outcome State Fault Refusal :=
  .next (
    if s.host.direct ∧ s.host.state = 1 ∧ s.isOn .core then
      let t := s.serveTxn 512
      if t.host.state = 2 then t.settleW else t
    else s)

/-! ## Images (13 R309) -/

/-- The port's image operation has completed: a LOAD loads the image, and the answer word stands. -/
def State.finishImage (s : State) (o : FlashOp) : State :=
  if !o.port then s else
  let s :=
    if o.op = 10 then
      let slot := o.gran / 8192 + 1
      let l := s.slotImage slot (o.gran % 8192)
      s.loadImage (secIx o.hofs) l l.length
    else s
  let w := if o.op = 10 then s.word A.SCH_LDST else o.imageWord
  (s.onTxn fun t => { t with answer := [w], served := 1, inFlash := false }).hostDone

/-- The active operation completes (12 R289): DONE with its code and FDONE for a sector's request; the journal's head moves after a record;
the host port's transaction ends with its image operation. -/
def execFlashOpComplete (s : State) : Host.Outcome State Fault Refusal :=
  match s.mem.factive with
  | none => .next s
  | some o =>
    if !o.finished then .next s else
    let s := s.setActive none
    let s := if o.op = 4 ∨ o.op = 6 then s.advanceHead else s
    let s := if o.op < 6 then ((s.put (F.FL_RES_STATE o.sec) 3).put (F.FL_RES_CODE o.sec) o.code).raise o.sec 24 else s.finishImage o
    .next s.fillQueue

/-! ## Timers (13 R301, R310) -/

/-- An answer DONE for 32,768 ticks is discarded. -/
def execUncoll (s : State) : Host.Outcome State Fault Refusal :=
  .next (
    if s.host.state = 2 ∧ 32768 ≤ s.host.doneTicks then (s.hostViolation 10 s.host.txn.sect 0 0).hostIdle else s)

/-- The host has been silent for LIM × 1024 ticks. -/
def State.hostSilent (s : State) : Bool :=
  let l := s.get F.HOST_WDT_LIM
  decide (l ≠ 0 ∧ 1024 * l ≤ s.host.silence)

/-- The host-silence watchdog expires: HWEXP, a log entry, and with ACT = 1 a SOFT reset of the device. -/
def execHwexp (s : State) : Host.Outcome State Fault Refusal :=
  .next (
    if s.hostSilent then
      let s := (s.hostHeard.setFlag F.HST_STAT_HWEXP).log 2 0 0 9 0
      if s.isSet F.HOST_WDT_ACT then s.deviceReset 6 else s
    else s)

end Sys2Proof.Machine
end

