-- ==== Sys2Proof/Machine/Telemetry.lean ====
section
/-! DEFINITION. The device telemetry frame (15 R363, Table NET-10). -/

namespace Sys2Proof.Machine

/-- The registers whose words a telemetry frame carries, in order. -/
def telemetryRegs : List Nat :=
  [A.SYS_ID, A.SYS_REV, A.CLK_TICKH, A.CLK_TICKL, A.SYS_RSTCAUSE, A.THERM_STAT, A.LDG_STAT, A.LDG_STOREH, A.LDG_STOREL, A.TW_STAT,
    A.PWR_REGCTL, A.SEC_STAT 0, A.SEC_STAT 1, A.SEC_STAT 2, A.SEC_STAT 3, A.MEM_VLOG]

/-- A register as a permitted read shows it. -/
def State.seen (s : State) (a : Nat) : Word :=
  match regAt a with
  | some (r, _) => s.shown a r
  | none => 0

/-- The pending TELEM request is served: a REPORT with DEV = 1 for sector 0 is built and queued; or nothing is built and TDROP counts. -/
def State.serveTelemetry (s : State) : State :=
  let s := s.onNet fun m => { m with telReq := false }
  if !s.isOn .net || s.seqLost 0 || s.keyMissing 0 then s.bump F.NET_TELEM_TDROP
  else match s.deviceFrame 0 0 (telemetryRegs.map s.seen) (s.netDest 0) with
    | some t => t
    | none => s.bump F.NET_TELEM_TDROP

/-- A TELEM booking, 64 cycles for sector 0 (02 Table CON-7). -/
def execTelemBooking (s : State) : Host.Outcome State Fault Refusal :=
  .next (if s.slotRoom 3 < 64 ∨ !s.net.telReq then s else s.serveTelemetry.book 0 64)

end Sys2Proof.Machine
end

