-- ==== Sys2Proof/Machine/Dispatch.lean ====
section
/-! DEFINITION. The meaning of every command: one arm per constructor, each a call of its meaning. -/

namespace Sys2Proof.Machine

def exec (i : Instr) (s : State) : Host.Outcome State Fault Refusal :=
  match i with
  | .frameBoundary => Sys2Proof.Machine.execFrameBoundary s
  | .syncEdge => Sys2Proof.Machine.execSyncEdge s
  | .wakeAlarm n => Sys2Proof.Machine.execWakeAlarm n s
  | .wakeStageReady => Sys2Proof.Machine.execWakeStageReady s
  | .oscfail => Sys2Proof.Machine.execOscfail s
  | .segmentAnchor n => Sys2Proof.Machine.execSegmentAnchor n s
  | .lateSegmentStart n => Sys2Proof.Machine.execLateSegmentStart n s
  | .boundaryPrologue => Sys2Proof.Machine.execBoundaryPrologue s
  | .bundleIssue upset => Sys2Proof.Machine.execBundleIssue upset s
  | .overrun => Sys2Proof.Machine.execOverrun s
  | .overcut => Sys2Proof.Machine.execOvercut s
  | .drainEnd => Sys2Proof.Machine.execDrainEnd s
  | .nop => Sys2Proof.Machine.execNop s
  | .add d a b imm => Sys2Proof.Machine.execAdd d a b imm s
  | .sub d a b imm => Sys2Proof.Machine.execSub d a b imm s
  | .addi d a b imm => Sys2Proof.Machine.execAddi d a b imm s
  | .adds d a b imm => Sys2Proof.Machine.execAdds d a b imm s
  | .subs d a b imm => Sys2Proof.Machine.execSubs d a b imm s
  | .and d a b imm => Sys2Proof.Machine.execAnd d a b imm s
  | .or d a b imm => Sys2Proof.Machine.execOr d a b imm s
  | .xor d a b imm => Sys2Proof.Machine.execXor d a b imm s
  | .abs d a b imm => Sys2Proof.Machine.execAbs d a b imm s
  | .min d a b imm => Sys2Proof.Machine.execMin d a b imm s
  | .max d a b imm => Sys2Proof.Machine.execMax d a b imm s
  | .shli d a b imm => Sys2Proof.Machine.execShli d a b imm s
  | .shri d a b imm => Sys2Proof.Machine.execShri d a b imm s
  | .srai d a b imm => Sys2Proof.Machine.execSrai d a b imm s
  | .shlv d a b imm => Sys2Proof.Machine.execShlv d a b imm s
  | .srav d a b imm => Sys2Proof.Machine.execSrav d a b imm s
  | .sat d a b imm => Sys2Proof.Machine.execSat d a b imm s
  | .cmpeq d a b imm => Sys2Proof.Machine.execCmpeq d a b imm s
  | .cmplt d a b imm => Sys2Proof.Machine.execCmplt d a b imm s
  | .cmple d a b imm => Sys2Proof.Machine.execCmple d a b imm s
  | .cmpltu d a b imm => Sys2Proof.Machine.execCmpltu d a b imm s
  | .pand d a b imm => Sys2Proof.Machine.execPand d a b imm s
  | .por d a b imm => Sys2Proof.Machine.execPor d a b imm s
  | .pxor d a b imm => Sys2Proof.Machine.execPxor d a b imm s
  | .mul d a b imm => Sys2Proof.Machine.execMul d a b imm s
  | .mac d a b imm => Sys2Proof.Machine.execMac d a b imm s
  | .msu d a b imm => Sys2Proof.Machine.execMsu d a b imm s
  | .mova d a b imm => Sys2Proof.Machine.execMova d a b imm s
  | .adda d a b imm => Sys2Proof.Machine.execAdda d a b imm s
  | .suba d a b imm => Sys2Proof.Machine.execSuba d a b imm s
  | .movia d a b imm => Sys2Proof.Machine.execMovia d a b imm s
  | .asr d a b imm => Sys2Proof.Machine.execAsr d a b imm s
  | .ext d a b imm => Sys2Proof.Machine.execExt d a b imm s
  | .exth d a b imm => Sys2Proof.Machine.execExth d a b imm s
  | .extl d a b imm => Sys2Proof.Machine.execExtl d a b imm s
  | .ld d a b => Sys2Proof.Machine.execLd d a b s
  | .ldPostinc d a b => Sys2Proof.Machine.execLdPostinc d a b s
  | .st d a b => Sys2Proof.Machine.execSt d a b s
  | .stPostinc d a b => Sys2Proof.Machine.execStPostinc d a b s
  | .ldd d a b => Sys2Proof.Machine.execLdd d a b s
  | .std d a b => Sys2Proof.Machine.execStd d a b s
  | .br off => Sys2Proof.Machine.execBr off s
  | .call off => Sys2Proof.Machine.execCall off s
  | .ret d a b => Sys2Proof.Machine.execRet d a b s
  | .sx d a b => Sys2Proof.Machine.execSx d a b s
  | .fx d a b => Sys2Proof.Machine.execFx d a b s
  | .wait d a b => Sys2Proof.Machine.execWait d a b s
  | .evt d a b => Sys2Proof.Machine.execEvt d a b s
  | .evw d a b => Sys2Proof.Machine.execEvw d a b s
  | .rdr d a b => Sys2Proof.Machine.execRdr d a b s
  | .wrr d a b => Sys2Proof.Machine.execWrr d a b s
  | .lmode d a b => Sys2Proof.Machine.execLmode d a b s
  | .lchan d a => Sys2Proof.Machine.execLchan d a s
  | .ltrig d a => Sys2Proof.Machine.execLtrig d a s
  | .lswap d a => Sys2Proof.Machine.execLswap d a s
  | .pop d a b => Sys2Proof.Machine.execPop d a b s
  | .phdr d a b => Sys2Proof.Machine.execPhdr d a b s
  | .iexc u a b => Sys2Proof.Machine.execIexc u a b s
  | .vexc a b => Sys2Proof.Machine.execVexc a b s
  | .tia u a b => Sys2Proof.Machine.execTia u a b s
  | .calq d a b => Sys2Proof.Machine.execCalq d a b s
  | .fswOn u a => Sys2Proof.Machine.execFswOn u a s
  | .fswOff u a => Sys2Proof.Machine.execFswOff u a s
  | .fswClear u a => Sys2Proof.Machine.execFswClear u a s
  | .aout u a b => Sys2Proof.Machine.execAout u a b s
  | .aoctl u a b => Sys2Proof.Machine.execAoctl u a b s
  | .crv d a b => Sys2Proof.Machine.execCrv d a b s
  | .lka d a b => Sys2Proof.Machine.execLka d a b s
  | .lkr d a b => Sys2Proof.Machine.execLkr d a b s
  | .nsend d a b => Sys2Proof.Machine.execNsend d a b s
  | .tsend d a b => Sys2Proof.Machine.execTsend d a b s
  | .hostBooking => Sys2Proof.Machine.execHostBooking s
  | .twinBooking => Sys2Proof.Machine.execTwinBooking s
  | .netrxBooking => Sys2Proof.Machine.execNetrxBooking s
  | .telemBooking => Sys2Proof.Machine.execTelemBooking s
  | .calBooking => Sys2Proof.Machine.execCalBooking s
  | .flashBooking => Sys2Proof.Machine.execFlashBooking s
  | .scrubBooking flips => Sys2Proof.Machine.execScrubBooking flips s
  | .imageLoad n l => Sys2Proof.Machine.execImageLoad n l s
  | .sectorReset n => Sys2Proof.Machine.execSectorReset n s
  | .sectorResetComplete n => Sys2Proof.Machine.execSectorResetComplete n s
  | .start acc n => Sys2Proof.Machine.execStart acc n s
  | .stop acc n => Sys2Proof.Machine.execStop acc n s
  | .cmdReset acc n => Sys2Proof.Machine.execCmdReset acc n s
  | .secSupvWrite acc n v => Sys2Proof.Machine.execSecSupvWrite acc n v s
  | .secDbellWrite acc n v => Sys2Proof.Machine.execSecDbellWrite acc n v s
  | .watchdogKick n v => Sys2Proof.Machine.execWatchdogKick n v s
  | .wdgw n => Sys2Proof.Machine.execWdgw n s
  | .watchdogExpiry n => Sys2Proof.Machine.execWatchdogExpiry n s
  | .wdg => Sys2Proof.Machine.execWdg s
  | .virtualLineChange n k => Sys2Proof.Machine.execVirtualLineChange n k s
  | .laneTimeShareExhausted n => Sys2Proof.Machine.execLaneTimeShareExhausted n s
  | .domainTransitionStart d => Sys2Proof.Machine.execDomainTransitionStart d s
  | .domainTransitionComplete d => Sys2Proof.Machine.execDomainTransitionComplete d s
  | .pendingTransitionStart d => Sys2Proof.Machine.execPendingTransitionStart d s
  | .laneAutoRetention j => Sys2Proof.Machine.execLaneAutoRetention j s
  | .lanePllStart => Sys2Proof.Machine.execLanePllStart s
  | .hcs => Sys2Proof.Machine.execHcs s
  | .tact => Sys2Proof.Machine.execTact s
  | .ned => Sys2Proof.Machine.execNed s
  | .wakeRaiseHoldExpiry k => Sys2Proof.Machine.execWakeRaiseHoldExpiry k s
  | .xkeepWrite v => Sys2Proof.Machine.execXkeepWrite v s
  | .crystalStandbyReached => Sys2Proof.Machine.execCrystalStandbyReached s
  | .scfail => Sys2Proof.Machine.execScfail s
  | .slowClockToCrystal => Sys2Proof.Machine.execSlowClockToCrystal s
  | .mdivApply j => Sys2Proof.Machine.execMdivApply j s
  | .regulatorToLow => Sys2Proof.Machine.execRegulatorToLow s
  | .borLowmode => Sys2Proof.Machine.execBorLowmode s
  | .postCommit => Sys2Proof.Machine.execPostCommit s
  | .tmrCorrection upsets => Sys2Proof.Machine.execTmrCorrection upsets s
  | .ledgerTickClose shunt vsys vexc => Sys2Proof.Machine.execLedgerTickClose shunt vsys vexc s
  | .ledgerZero offset => Sys2Proof.Machine.execLedgerZero offset s
  | .storePost v => Sys2Proof.Machine.execStorePost v s
  | .stale => Sys2Proof.Machine.execStale s
  | .thermalSample t => Sys2Proof.Machine.execThermalSample t s
  | .agecIncrement => Sys2Proof.Machine.execAgecIncrement s
  | .clamp p => Sys2Proof.Machine.execClamp p s
  | .lplim n => Sys2Proof.Machine.execLplim n s
  | .descriptorCommit acc d v => Sys2Proof.Machine.execDescriptorCommit acc d v s
  | .profileCommit acc p v => Sys2Proof.Machine.execProfileCommit acc p v s
  | .thresholdSetCommit acc t v => Sys2Proof.Machine.execThresholdSetCommit acc t v s
  | .crvPdAccess acc v => Sys2Proof.Machine.execCrvPdAccess acc v s
  | .laneCommandEffect j => Sys2Proof.Machine.execLaneCommandEffect j s
  | .laneFrameTrigger j => Sys2Proof.Machine.execLaneFrameTrigger j s
  | .chainReset j => Sys2Proof.Machine.execChainReset j s
  | .sampleBoundary j mods pads => Sys2Proof.Machine.execSampleBoundary j mods pads s
  | .gatingWindowClose j => Sys2Proof.Machine.execGatingWindowClose j s
  | .shadowTimeout j => Sys2Proof.Machine.execShadowTimeout j s
  | .laneHcmd j v => Sys2Proof.Machine.execLaneHcmd j v s
  | .laneReset acc j => Sys2Proof.Machine.execLaneReset acc j s
  | .calMeasurementEnd j => Sys2Proof.Machine.execCalMeasurementEnd j s
  | .calStoreRetry => Sys2Proof.Machine.execCalStoreRetry s
  | .fswTurnonComplete k => Sys2Proof.Machine.execFswTurnonComplete k s
  | .fswTurnoffComplete k => Sys2Proof.Machine.execFswTurnoffComplete k s
  | .fswLimit k load => Sys2Proof.Machine.execFswLimit k load s
  | .fswLatchOff k => Sys2Proof.Machine.execFswLatchOff k s
  | .fswTrip k reverse => Sys2Proof.Machine.execFswTrip k reverse s
  | .fswRetry k cool => Sys2Proof.Machine.execFswRetry k s cool
  | .rcntClear k => Sys2Proof.Machine.execRcntClear k s
  | .vfldUvlo => Sys2Proof.Machine.execVfldUvlo s
  | .vfldUvloRelease => Sys2Proof.Machine.execVfldUvloRelease s
  | .outputMonitorSample high ao => Sys2Proof.Machine.execOutputMonitorSample high ao s
  | .aoRangeComplete n => Sys2Proof.Machine.execAoRangeComplete n s
  | .outputPendingStart u => Sys2Proof.Machine.execOutputPendingStart u s
  | .sharedOutputDrive => Sys2Proof.Machine.execSharedOutputDrive s
  | .hcsFall mode3 => Sys2Proof.Machine.execHcsFall mode3 s
  | .rdreg h => Sys2Proof.Machine.execRdreg h s
  | .wrreg h data dcrc => Sys2Proof.Machine.execWrreg h data dcrc s
  | .rdmem h => Sys2Proof.Machine.execRdmem h s
  | .wrmem h data dcrc => Sys2Proof.Machine.execWrmem h data dcrc s
  | .rdstrm h => Sys2Proof.Machine.execRdstrm h s
  | .status h => Sys2Proof.Machine.execStatus h s
  | .release h => Sys2Proof.Machine.execRelease h s
  | .abort h => Sys2Proof.Machine.execAbort h s
  | .imgldWrite h data dcrc => Sys2Proof.Machine.execImgldWrite h data dcrc s
  | .imgldErase h => Sys2Proof.Machine.execImgldErase h s
  | .imgldLoad h => Sys2Proof.Machine.execImgldLoad h s
  | .echo h data dcrc => Sys2Proof.Machine.execEcho h data dcrc s
  | .trunc cmd n heard => Sys2Proof.Machine.execTrunc cmd n s heard
  | .hostDirectService => Sys2Proof.Machine.execHostDirectService s
  | .uncoll => Sys2Proof.Machine.execUncoll s
  | .hwexp => Sys2Proof.Machine.execHwexp s
  | .sysKeyWrite acc v => Sys2Proof.Machine.execSysKeyWrite acc v s
  | .sysKeyExpiry => Sys2Proof.Machine.execSysKeyExpiry s
  | .registerWrite acc addr v => Sys2Proof.Machine.execRegisterWrite acc addr v s
  | .periodWrite acc v => Sys2Proof.Machine.execPeriodWrite acc v s
  | .tangentTurnStart long collide => Sys2Proof.Machine.execTangentTurnStart long collide s
  | .ackReceived ack => Sys2Proof.Machine.execAckReceived ack s
  | .hbReceived h ws => Sys2Proof.Machine.execHbReceived h ws s
  | .msgReceived h ws => Sys2Proof.Machine.execMsgReceived h ws s
  | .mirReceived h ws => Sys2Proof.Machine.execMirReceived h ws s
  | .shdReceived h ws => Sys2Proof.Machine.execShdReceived h ws s
  | .trainReceived ws => Sys2Proof.Machine.execTrainReceived ws s
  | .rtx => Sys2Proof.Machine.execRtx s
  | .heartbeatMiss low => Sys2Proof.Machine.execHeartbeatMiss low s
  | .trainResend => Sys2Proof.Machine.execTrainResend s
  | .trainingTimeout => Sys2Proof.Machine.execTrainingTimeout s
  | .retryTimerExpiry => Sys2Proof.Machine.execRetryTimerExpiry s
  | .presenceChange => Sys2Proof.Machine.execPresenceChange s
  | .claimAttempt high => Sys2Proof.Machine.execClaimAttempt s high
  | .claimProbe low => Sys2Proof.Machine.execClaimProbe low s
  | .yield acc => Sys2Proof.Machine.execYield acc s
  | .retrain acc => Sys2Proof.Machine.execRetrain acc s
  | .twRxPop acc n => Sys2Proof.Machine.execTwRxPop acc n s
  | .shadowRecordExpiry j => Sys2Proof.Machine.execShadowRecordExpiry j s
  | .linkUp high master => Sys2Proof.Machine.execLinkUp high master s
  | .ldown => Sys2Proof.Machine.execLdown s
  | .netFrameReceived f => Sys2Proof.Machine.execNetFrameReceived f s
  | .arpRequest f => Sys2Proof.Machine.execArpRequest f s
  | .icmpEchoRequest f => Sys2Proof.Machine.execIcmpEchoRequest f s
  | .transmitStart => Sys2Proof.Machine.execTransmitStart s
  | .transmitDone => Sys2Proof.Machine.execTransmitDone s
  | .txto => Sys2Proof.Machine.execTxto s
  | .netRxPop acc n => Sys2Proof.Machine.execNetRxPop acc n s
  | .seqRestoreCommit n rx v => Sys2Proof.Machine.execSeqRestoreCommit n rx v s
  | .read acc n cntm1 => Sys2Proof.Machine.execRead acc n cntm1 s
  | .prog acc n cntm1 => Sys2Proof.Machine.execProg acc n cntm1 s
  | .erase acc n cntm1 => Sys2Proof.Machine.execErase acc n cntm1 s
  | .append acc n cntm1 => Sys2Proof.Machine.execAppend acc n cntm1 s
  | .recent acc n cntm1 => Sys2Proof.Machine.execRecent acc n cntm1 s
  | .eraseSuspend => Sys2Proof.Machine.execEraseSuspend s
  | .flashArrayStepDone ok => Sys2Proof.Machine.execFlashArrayStepDone ok s
  | .flashOpComplete => Sys2Proof.Machine.execFlashOpComplete s
  | .logEntryWrite => Sys2Proof.Machine.execLogEntryWrite s
  | .thermosDataAccess acc v => Sys2Proof.Machine.execThermosDataAccess acc v s
  | .otpProgram acc v => Sys2Proof.Machine.execOtpProgram acc v s
  | .otpProgramDone => Sys2Proof.Machine.execOtpProgramDone s
  | .bor => Sys2Proof.Machine.execBor s
  | .pin => Sys2Proof.Machine.execPin s
  | .soft acc => Sys2Proof.Machine.execSoft acc s
  | .aonReady => Sys2Proof.Machine.execAonReady s
  | .strapSample bootHigh test => Sys2Proof.Machine.execStrapSample bootHigh test s
  | .policyRead => Sys2Proof.Machine.execPolicyRead s
  | .journalScan => Sys2Proof.Machine.execJournalScan s
  | .bootSlotLoad => Sys2Proof.Machine.execBootSlotLoad s
  | .bootStart => Sys2Proof.Machine.execBootStart s
  | .guestLoad acc v => Sys2Proof.Machine.execGuestLoad acc v s
  | .gpFuncWrite acc g v => Sys2Proof.Machine.execGpFuncWrite acc g v s
  | .gpParkEnd g => Sys2Proof.Machine.execGpParkEnd g s
  | .gpEdge g level => Sys2Proof.Machine.execGpEdge g level s
  | .wakePinEdge level => Sys2Proof.Machine.execWakePinEdge level s
  | .vddioLoss => Sys2Proof.Machine.execVddioLoss s
  | .vddioResume => Sys2Proof.Machine.execVddioResume s
  | .vsysLoss held => Sys2Proof.Machine.execVsysLoss held s
  | .hostHeaderReject cmd addr cnt hcrc => Sys2Proof.Machine.execHostHeaderReject cmd addr cnt hcrc s
  | .tangentFrameError e => Sys2Proof.Machine.execTangentFrameError e s
  | .negotiationComplete => Sys2Proof.Machine.execNegotiationComplete s
  | .excitationLimit k => Sys2Proof.Machine.execExcitationLimit k s
  | .tiasat n => Sys2Proof.Machine.execTiasat n s
  | .aoutRampComplete n => Sys2Proof.Machine.execAoutRampComplete n s

end Sys2Proof.Machine
end

