-- ==== Sys2Proof/Machine/Tick.lean ====
section
/-! DEFINITION. What the block does by itself when no command waits: the commands its own sequencers raise, and the passing of a slow-clock
tick (06 R133). DESIGN CHOICE, notes/assumptions/1.md: the table has no row for a tick. -/

namespace Sys2Proof.Machine

/-! ## Booking decisions (02 R42) -/

/-- The booking each service would make in the running slot, with the sector that requests it, in the order of R42. -/
def State.requests? (s : State) : List (Instr × Sector) :=
  let one (c : Instr) (p : Option Sector) : List (Instr × Sector) := (p.map fun n => (c, n)).toList
  let twin := (sectors.filter fun n => (s.twinWork n s.twinRoom).isSome).map fun n => (Instr.twinBooking, n)
  let rx := (sectors.filter fun n => (s.netrxWork n (s.slotRoom 2)).isSome).map fun n => (Instr.netrxBooking, n)
  twin ++ one .hostBooking (if s.hostPending then some s.host.txn.sect else none) ++ rx ++
    one .flashBooking (if s.flashRoom < 48 then none else s.flashPending) ++
    one .calBooking (if s.slotRoom 4 < 256 then none else s.calPending) ++
    one .telemBooking (if s.slotRoom 3 < 64 ∨ !s.net.telReq then none else some 0) ++
    one (.scrubBooking []) (if s.slotRoom 6 < 40 ∨ !s.scrubPending then none else some 0)

/-- The booking the device makes next: the sector with the smallest ratio, and within it the first service. -/
def State.nextBooking (s : State) : Option Instr :=
  match s.pickSector fun n => s.requests?.any fun r => decide (r.2 = n) with
  | none => none
  | some n => (s.requests?.find? fun r => decide (r.2 = n)).map (·.1)

/-! ## Without the clock -/

/-- What the engine does next: a booking, an overrun's detection, the next bundle, the end of a drain. -/
def State.engineNext (s : State) : List Instr :=
  match s.eng.cur with
  | some g =>
    match s.nextBooking with
    | some c => [c]
    | none =>
      if !g.overran ∧ g.seg.dcyc ≤ g.cyc then [.overrun]
      else if g.overran ∧ g.seg.dcyc + s.grace ≤ g.cyc then [.overcut]
      else [.bundleIssue .none]
  | none => if s.eng.drain.isSome then [.drainEnd] else s.nextBooking.toList

/-- Sector n's bundle of the cycle that called for its reset has yet to issue. -/
def State.finishing (s : State) (n : Sector) : Bool :=
  match s.eng.cur with
  | some g => decide (g.sec = n) && !g.held
  | none => false

/-- The next segment of sector n is armed and its start tick has come. -/
def State.anchorDue (s : State) (n : Sector) : Bool :=
  let x := s.secs[n]
  x.inFrame && !x.cancelled && (s.segOf n x.frame x.tier x.nextSeg).any fun g => !tickBefore s.tick (s.anchorTick g)

/-- Resets, segments whose anchor found an earlier one of their sector waiting, the prologue and waiting segments. -/
def State.coreNext (s : State) : List Instr :=
  (sectors.filter fun n => s.secs[n].rstBusy).map Instr.sectorResetComplete ++
  (if s.isOn .core then (sectors.filter fun n => s.secs[n].rstWait.isSome && !s.finishing n).map Instr.sectorReset else []) ++
  (sectors.filter fun n => s.anchorDue n && !s.waits n).map Instr.segmentAnchor ++
  (if s.eng.prologueDue && s.engineFree && !s.eng.waiting.isEmpty then [Instr.boundaryPrologue] else []) ++
  (match firstWaiting s.eng.waiting with
    | some w => if s.engineFree && !s.eng.prologueDue then [Instr.lateSegmentStart w.sec] else []
    | none => [])

/-- A command changes the state. -/
def State.moves (s : State) (c : Instr) : Bool :=
  match exec c s with
  | .next t => decide (t ≠ s)
  | _ => true

/-- Class W domains are held by a segment, a drain, a wake, boot or other work of the core. -/
def State.coreHeld (s : State) : Bool := s.coreBusy || s.pwr.wake.isSome || decide (s.boot.phase < 6)

/-- A bank lies below a floor that applies to it: it rises at once, whatever holds the other class W domains (06 R146). -/
def State.bankRaised (s : State) (d : Dom) : Bool :=
  match d with
  | .hb k => s.bankWanted k && s.pwr.wake.isNone && decide ((s.dom d).state ≠ .on)
  | _ => false

/-- Transitions, a lane's PLL start and the regulator's fall, which no edge times (06 R149, R156, R451). A PLL start that was abandoned waits
for the next edge (06 R130). -/
def State.powerNext (s : State) : List Instr :=
  (allDoms.filter fun d => (s.dom d).moving.isNone && (s.dom d).pend.isSome).map Instr.pendingTransitionStart ++
    (allDoms.filter fun d => (s.dom d).moving.isNone && (s.dom d).pend.isNone && (!domIsW d || !s.coreHeld || s.bankRaised d) &&
      mayMove d (s.dom d).state (s.domTarget d)).map Instr.domainTransitionStart ++
    (if lanes4.any s.laneNeedsClock && !s.pwr.pll && s.pwr.wake.isNone && !s.pwr.pllWait then [.lanePllStart] else []) ++
    (if s.isSet F.PWR_REGCTL_MODE && !s.fullForced && !s.idleFull then [.regulatorToLow] else [])

/-- The first command that the block raises now without waiting for a slow-clock edge. -/
def State.promptly (s : State) : Option Instr := (s.powerNext ++ s.coreNext ++ s.engineNext).find? s.moves

/-! ## A tick -/

/-- The counts that every tick advances (01, 05, 06, 07, 11, 13, 14, 15). -/
def State.advanceCounts (s : State) : State :=
  let s := s.tickLocks.tickFrames.tickTwin.tickPower.tickSectors
  let fsw := Vector.ofFn fun (k : Fin 4) =>
    let x := s.out.fsw[k]
    { x with onTicks := if s.fswState k = 2 then x.onTicks + 1 else 0, limTicks := if s.fswState k = 4 then x.limTicks + 1 else 0,
             retryLeft := x.retryLeft - 1 }
  let h := s.host
  { s with
    tick := if s.boot.aon then (s.tick + 1) % 2 ^ 36 else s.tick
    pwr := { s.pwr with posts := s.pwr.posts.map fun p => { p with age := p.age + 1 } }
    ldg := { s.ldg with postAge := if s.boot.aon then s.ldg.postAge + 1 else s.ldg.postAge }
    out := { s.out with fsw := fsw }
    host := { h with
      silence := if s.get F.HOST_WDT_LIM = 0 then 0 else h.silence + 1
      doneTicks := if h.state = 2 then h.doneTicks + 1 else 0
      keyTicks := h.keyTicks - 1 } }

/-- The tick at which the next frame is expected: PERIOD after the last, or where a SYNC edge or boot has called it (01 R24). -/
def State.nextFrame (s : State) : Nat := s.sch.syncAt.getD (tickAfter s.sch.frameStart (s.get F.SCH_FRAME_PERIOD))

/-- A frame starts at this tick (01 R24). -/
def State.frameDue (s : State) : Bool := decide (6 ≤ s.boot.phase) && !tickBefore s.tick s.nextFrame

/-- Start ticks of the segments of the frame in progress that sector n has yet to come to. -/
def State.startsAhead (s : State) (n : Sector) : List Nat :=
  let x := s.secs[n]
  if !x.inFrame || x.cancelled then [] else
  match s.tierOf n x.frame x.tier with
  | some e => (e.segs.drop x.nextSeg).map s.anchorTick
  | none => []

/-- The frame starts that sector n lets pass before its next frame: the skip counter's, or none when it starts there (01 R15, R25 step 4,
16 R379); none where it does not run. -/
def State.framesToPass (s : State) (n : Sector) : Option Nat :=
  if s.secs[n].rstWait.isSome then none
  else if s.running n then some s.secs[n].skipLeft
  else if (s.stopped n && s.isSet (F.SEC_CTL_SPEND n)) || s.restarting n ||
      (decide (n = 0 ∧ s.boot.phase = 6) && s.isSet (F.SEC_CTL_IMG 0)) then some 0
  else none

/-- Tick `a` is the start of the first segment of a frame of sector n to come (01 R15, R16). -/
def State.firstStartAt (s : State) (n : Sector) (a : Nat) : Bool :=
  match s.framesToPass n, s.firstStart n with
  | some j, some f =>
    let period := s.get F.SCH_FRAME_PERIOD
    let d := ticksFrom (tickAfter s.nextFrame f) a
    decide (d < 2 ^ 35 ∧ d % (period * (s.get (F.SCH_SKIP_SKIP n) + 1)) = j * period)
  | _, _ => false

/-- The wake-start tick of a segment of sector n lies at this tick: its start lies ahead by the lead that the clock state calls for (01 R21).
DESIGN CHOICE (notes/assumptions/88.md): where the clock state changes so that no tick lies ahead by the lead then applicable, no alarm
comes, and the wake starts at the anchor. -/
def State.alarmDue (s : State) (n : Sector) : Bool :=
  let a := tickAfter s.tick (s.wakeLead s.wakeKind)
  decide (6 ≤ s.boot.phase) && (decide (a ∈ s.startsAhead n) || s.firstStartAt n a)

def ifDue (b : Bool) (c : Instr) : List Instr := if b then [c] else []

/-- Boot goes on (16 Table RST-3); the straps are the outside's to give. -/
def State.bootDue (s : State) : List Instr :=
  ifDue (!s.boot.aon) .aonReady ++ ifDue (decide (s.boot.phase = 2) && s.isOn .core) .policyRead ++
    ifDue (decide (s.boot.phase = 4)) .journalScan ++
    (if s.boot.phase = 5 then [.bootSlotLoad, .bootStart] else []) ++ ifDue s.boot.guest.isSome (.guestLoad (.prog 0) 0)

/-- The first stage of a wake, `age` ticks old, that has yet to complete (06 Table PWR-17): a stopped crystal holds the oscillator stage 41
ticks, a stopped PLL its stage two, and what comes before the first tick takes less than one. -/
def State.wakeReaches (s : State) (stage : Nat) : Nat :=
  let a := s.pwr.wakeAge
  if a = 0 then stage
  else if stage ≤ 1 ∧ (s.pwr.xtal = .stop ∨ s.pwr.xtal = .starting) ∧ a < 41 then 1
  else if stage ≤ 2 ∧ !s.pwr.pll ∧ a < 2 then 2
  else 5

/-- The stages of a running wake that have completed since the last edge. -/
def State.wakeSteps (s : State) : List Instr :=
  match s.pwr.wake with
  | none => []
  | some w => List.replicate (s.wakeReaches w.stage - w.stage) .wakeStageReady

/-- Raises that end, and auto-retention. -/
def State.powerDue (s : State) : List Instr :=
  ([0, 1, 2].filter fun (k : Fin 3) => decide (s.pwr.hold[k] = 1)).map Instr.wakeRaiseHoldExpiry ++ lanes4.map Instr.laneAutoRetention

/-- Sectors, watchdogs, lines, lanes. -/
def State.sectorDue (s : State) : List Instr :=
  (sectors.flatMap fun n =>
    ifDue (s.warnPoint n) (.wdgw n) ++ ifDue (s.watchdogDone n) (if n = 0 then .wdg else .watchdogExpiry n) ++
      ifDue (s.laneShareDone n) (.laneTimeShareExhausted n) ++
      ([0, 1, 2, 3].filter fun (k : Fin 4) => s.lineActive n k != s.isSet (F.SEC_VRT_ACT n k)).map (Instr.virtualLineChange n)) ++
    lanes4.flatMap fun i =>
      ifDue (!s.lanes[i].queue.isEmpty) (.laneCommandEffect i) ++
        ifDue (s.lanes[i].window.isSome && s.lanes[i].conv.isNone) (.gatingWindowClose i) ++
        ifDue (s.lanes[i].due && s.laneClocked i) (.chainReset i)

/-- Memories, outputs, pins. -/
def State.memoryDue (s : State) : List Instr :=
  ([0, 1, 2, 3].filter s.calMeasured).map Instr.calMeasurementEnd ++ ifDue (!s.mem.logq.isEmpty) .logEntryWrite ++
    ifDue (s.mem.factive.any (·.finished)) .flashOpComplete ++ [.eraseSuspend, .calStoreRetry] ++
    ifDue s.mem.otpPend.isSome .otpProgramDone ++
    (switches.flatMap fun (k : Fin 4) =>
      ifDue (s.fswRetries k) (.fswRetry k true) ++ [.fswLimit k s.out.fsw[k].load] ++
        ifDue (decide (s.fswState k = 4 ∧ 33 ≤ s.out.fsw[k].limTicks)) (.fswLatchOff k) ++
        ifDue (decide (s.fswState k = 2 ∧ 1966080 ≤ s.out.fsw[k].onTicks)) (.rcntClear k)) ++
    [0, 1, 2, 3, 4, 5].map Instr.outputPendingStart ++ ifDue (s.mayDrive && !s.out.drive) .sharedOutputDrive ++
    (gps.filter fun (g : Fin 8) => s.isSet (F.PIN_GP_PARK g)).map Instr.gpParkEnd

/-- The ports. -/
def State.portDue (s : State) : List Instr :=
  ifDue (s.armed && decide (s.host.keyTicks = 0)) .sysKeyExpiry ++
    ifDue (s.host.direct && decide (s.host.state = 1) && s.isOn .core) .hostDirectService ++
    ifDue (decide (s.host.state = 2 ∧ 32768 ≤ s.host.doneTicks)) .uncoll ++ ifDue s.hostSilent .hwexp ++
    ifDue (s.net.tx.any fun d => d.late s.txLimit) .txto ++
    (if s.isSet F.TW_STAT_TRN then
      (if 32 ≤ s.tw.trainAge then [.trainingTimeout] else ifDue (decide (s.tw.trainAge % 4 = 0)) .trainResend) else []) ++
    ifDue (decide (s.tw.retry = some 0)) .retryTimerExpiry ++
    ifDue (s.linkUp && decide (s.hbWindow ≤ s.tw.hbAge)) (.heartbeatMiss s.tw.extLow)

/-- What the edge of a tick begins with: transitions and wake stages that have ended since the last, corrections, boot, the frame with its
lane triggers, and then a post. -/
def State.dueFirst (s : State) : List Instr :=
  (allDoms.filter fun d => (s.dom d).moving.isSome).map Instr.domainTransitionComplete ++ s.wakeSteps ++
    ifDue (!s.flips.isEmpty) (.tmrCorrection []) ++ s.bootDue ++
    (if s.frameDue then .frameBoundary :: lanes4.map Instr.laneFrameTrigger else []) ++
    ifDue (s.pwr.posts.head?.any fun p => decide (3 ≤ p.age)) .postCommit

/-- What the edge brings then: alarms, the prologue ahead of the frame's first segment (01 R26), anchors, and the rest of the block. -/
def State.dueThen (s : State) : List Instr :=
  (sectors.filter s.alarmDue).map Instr.wakeAlarm ++ ifDue (s.eng.prologueDue && s.engineFree && sectors.any s.anchorDue) .boundaryPrologue ++
    (sectors.filter s.anchorDue).map Instr.segmentAnchor ++ s.powerDue ++ s.sectorDue ++ s.memoryDue ++ s.portDue ++
    ifDue (s.postStale && !s.isSet F.LDG_STAT_STALE) .stale ++
    ifDue (decide (s.tick % 2 ^ 27 = 0)) .agecIncrement

/-- Of commands in order, those that change the state they find, and the state after them. -/
def State.taking (s : State) : List Instr → List Instr × State
  | [] => ([], s)
  | c :: l =>
    match exec c s with
    | .next t => if t = s then s.taking l else let (r, u) := t.taking l; (c :: r, u)
    | _ => s.taking l

/-- A wake that was abandoned, for a sector reset, direct service or boot phase 2, starts again (06 R130). -/
def State.retryWake (s : State) : State :=
  let waking := match s.pwr.wake with
    | some w => w.core
    | none => false
  if waking || s.isOn .core then s
  else if s.boot.phase = 2 ∨ sectors.any (fun n => s.secs[n].rstWait.isSome) then s.startWake 9 []
  else if (s.host.direct ∧ s.host.state = 1) ∨ s.twinDirect then s.startWake 0 []
  else s

/-- What stands at the end of an edge is latched for the boundary steps of the next (01 R25). -/
def State.latchEdge (s : State) : State :=
  { s with sch := { s.sch with latch := {
      events := Vector.ofFn s.events, level := s.get F.THERM_STAT_LEVEL, storeH := s.word A.LDG_STOREH, storeL := s.word A.LDG_STOREL } } }

/-- A rising slow-clock edge: what copies were in progress is done, the counts advance, the pulses of SYNC and of a frame's start end, and what
the edge begins with is to be done. -/
def State.tickPasses (s : State) : State :=
  let s := (s.copyCycles 1024).advanceCounts.settleLoops
  let s := if s.tick % 65536 = 0 then s.agedLastv.agedNaks else s
  let s := ({ s with sch := { s.sch with syncOut := false, pulse := false, edge := 1 }, pwr := { s.pwr with pllWait := false } }).beginTick
  { s with pending := (s.taking s.dueFirst).1 }

/-- The block with no command waiting. At an edge it raises what the edge begins with, then the rest; the stale copies follow once all of it
is done (06 R139). Between edges it raises what comes at once, and where there is nothing the next tick passes. -/
def State.idle (s : State) : State :=
  if s.sch.edge = 1 then
    let s := ({ s with sch := { s.sch with edge := 2 } }).retryWake
    { s with pending := (s.taking s.dueThen).1 }
  else if s.sch.edge = 2 then ({ s with sch := { s.sch with edge := 0 } }).latchEdge.refreshStale
  else
    let s := s.retargetAll
    match s.promptly with
    | some c => { s with pending := [c] }
    | none => s.tickPasses

end Sys2Proof.Machine
end

