-- ==== Sys2Proof/Safety.lean ====
section
/-! DEFINITION. What statements about the block are made of: a command that completes, the canonical form of every sparse memory, frames
(which parts of the state and which registers a command leaves alone), and a segment that nothing disturbs. -/

namespace Sys2Proof.Machine

/-- Command `c`, run at `s`, answers a next state, of which `P` holds. -/
def Completes (c : Instr) (s : State) (P : State → Prop) : Prop := ∃ t, exec c s = .next t ∧ P t

/-- Every sparse memory of a state is in its one canonical form (registers, stale copies, instruction memory, Hamper, Thermos, flash with
its erase counts, OTP, curve memory with its LASTV ticks, and the staged words). -/
def Memory.wf (s : State) : Bool :=
  storeWf regPor s.regs && storeWf regPor s.stale && storeWf (fun _ => 0) s.eng.imem && storeWf (fun _ => Upset.none) s.eng.imemUpset &&
    storeWf (fun _ => 0) s.mem.hamper && storeWf (fun _ => Upset.none) s.mem.upset && storeWf (fun _ => 0) s.mem.thermos &&
    storeWf (fun _ => 0xFF) s.mem.flash && storeWf (fun _ => 0) s.mem.wear && storeWf (fun _ => 0) s.mem.otp &&
    storeWf curveReset s.cal.mem && storeWf (fun _ => none) s.cal.staged && storeWf (fun _ => none) s.cal.lastv &&
    storeWf (fun _ => none) s.afe.staged

/-! ## Frames -/

/-- The parts a state is made of. -/
inductive Part where
  | pending | regs | stale | flips | tick | eng | sch | secs | locks | pwr | mem | tw | net | ldg | lanes | afe | cal | out | boot | pins
  | host | free
  deriving DecidableEq, Repr

/-- Two states agree in a part. -/
def Part.same (s t : State) : Part → Prop
  | .pending => t.pending = s.pending
  | .regs => t.regs = s.regs
  | .stale => t.stale = s.stale
  | .flips => t.flips = s.flips
  | .tick => t.tick = s.tick
  | .eng => t.eng = s.eng
  | .sch => t.sch = s.sch
  | .secs => t.secs = s.secs
  | .locks => t.locks = s.locks
  | .pwr => t.pwr = s.pwr
  | .mem => t.mem = s.mem
  | .tw => t.tw = s.tw
  | .net => t.net = s.net
  | .ldg => t.ldg = s.ldg
  | .lanes => t.lanes = s.lanes
  | .afe => t.afe = s.afe
  | .cal => t.cal = s.cal
  | .out => t.out = s.out
  | .boot => t.boot = s.boot
  | .pins => t.pins = s.pins
  | .host => t.host = s.host
  | .free => t.free = s.free

/-- Every part but those listed is as it was. -/
def Keeps (but : List Part) (s t : State) : Prop := ∀ p, p ∉ but → p.same s t

/-- Every register but those at the listed addresses holds what it held. -/
def RegsKept (but : List Nat) (s t : State) : Prop := ∀ a, a ∉ but → t.word a = s.word a

/-! ## A segment that nothing disturbs -/

/-- Sector `g.sec` runs segment `g`: no open slot begins at its next `k` cycles, it neither ends nor is to be reset, and no result and no
send copy is in flight. A syllable issued now issues at once, and its effect is all that the next `k` cycles bring. -/
structure Undisturbed (s : State) (g : RunSeg) (k : Nat) : Prop where
  runs : s.eng.cur = some g
  live : g.kill = false
  going : g.ending = false
  slots : ∀ o ∈ g.seg.slots, o.ofs < g.cyc ∨ g.cyc + k ≤ o.ofs
  flights : s.eng.flights = []
  copies : s.eng.copies = []

/-- `k` bundles issued in sequence. -/
def RunSeg.advanced (g : RunSeg) : Nat → RunSeg
  | 0 => g
  | k + 1 => g.advance.advanced k

/-- `k` issue cycles have passed in which the sector changed as `f` says and the segment moved on. -/
def State.issued (s : State) (g : RunSeg) (k : Nat) (f : SectorSt → SectorSt) : State :=
  (s.onSec g.sec fun x => { f x with cycles := (f x).cycles + k }).setSeg (g.advanced k)

/-- A flag of the register map set when `b` holds. -/
def State.flagged (s : State) (b : Bool) (f : Fld) : State := if b then s.setFlag f else s

/-- Three commands in a row: `c` and two bundles that do nothing. -/
def ThenTwoNops (c : Instr) (s : State) (t : State) : Prop :=
  ∃ u v, exec c s = .next u ∧ exec .nop u = .next v ∧ exec .nop v = .next t

/-- Two commands in a row: `c` and a bundle that does nothing. -/
def ThenNop (c : Instr) (s : State) (t : State) : Prop := ∃ u, exec c s = .next u ∧ exec .nop u = .next t

end Sys2Proof.Machine
end

