-- ==== Sys2Proof/WellFormed.lean ====
section
/-! DEFINITION. Well-formed commands: operands that a command of its row can carry. -/

namespace Sys2Proof

/-- Words that a request header counts: CNT, 0 meaning 256 (13 Table HST-1). -/
def countedWords (h : HostHead) : Nat := if h.cnt.toNat = 0 then 256 else h.cnt.toNat

/-- A header has the opcode's ADDR action bits (13 R309). -/
def hasAction (h : HostHead) (k : Nat) : Bool := decide (h.addr.toNat / 2 ^ 13 % 4 = k)

/-- A link frame's payload has a length its LEN field can name (14 Table TWN-1). -/
def linkWords (ws : List Word) : Bool := decide (ws.length < 64)

/-- A command is well formed: register addresses and Hamper words lie in their spaces, host data have the length their header counts, a
STATUS frame of its row carries the row's bit, an image operation its action, and a link frame fits its length field. Other rows take
every operand their constructor has. -/
def Instr.wf : Instr → Bool
  | .scrubBooking flips => flips.all fun c => decide (c.1 < 65536)
  | .tmrCorrection upsets => upsets.all fun u => decide (u.1 < 4096)
  | .sampleBoundary _ mods _ => !mods.isEmpty
  | .wrreg h data _ => decide (data.length = 3 * countedWords h)
  | .wrmem h data _ => decide (data.length = 3 * countedWords h)
  | .echo h data _ => decide (data.length = 3 * countedWords h)
  | .imgldWrite h data _ => hasAction h 0 && decide (data.length = 3 * countedWords h)
  | .imgldErase h => hasAction h 1
  | .imgldLoad h => hasAction h 2
  | .release h => h.addr.getLsbD 0
  | .abort h => h.addr.getLsbD 1
  | .hbReceived _ ws => linkWords ws
  | .msgReceived _ ws => linkWords ws
  | .mirReceived _ ws => linkWords ws
  | .shdReceived _ ws => linkWords ws
  | .trainReceived ws => linkWords ws
  | .imageLoad _ l => decide (l.length < 2 ^ 32)
  | .frameBoundary | .syncEdge | .wakeAlarm _ | .wakeStageReady | .oscfail | .segmentAnchor _ | .lateSegmentStart _ | .boundaryPrologue
  | .bundleIssue _ | .overrun | .overcut | .drainEnd | .nop | .add _ _ _ _ | .sub _ _ _ _ | .addi _ _ _ _ | .adds _ _ _ _
  | .subs _ _ _ _ | .and _ _ _ _ | .or _ _ _ _ | .xor _ _ _ _ | .abs _ _ _ _ | .min _ _ _ _ | .max _ _ _ _ | .shli _ _ _ _
  | .shri _ _ _ _ | .srai _ _ _ _ | .shlv _ _ _ _ | .srav _ _ _ _ | .sat _ _ _ _ | .cmpeq _ _ _ _ | .cmplt _ _ _ _ | .cmple _ _ _ _
  | .cmpltu _ _ _ _ | .pand _ _ _ _ | .por _ _ _ _ | .pxor _ _ _ _ | .mul _ _ _ _ | .mac _ _ _ _ | .msu _ _ _ _ | .mova _ _ _ _
  | .adda _ _ _ _ | .suba _ _ _ _ | .movia _ _ _ _ | .asr _ _ _ _ | .ext _ _ _ _ | .exth _ _ _ _ | .extl _ _ _ _ | .ld _ _ _
  | .ldPostinc _ _ _ | .st _ _ _ | .stPostinc _ _ _ | .ldd _ _ _ | .std _ _ _ | .br _ | .call _ | .ret _ _ _ | .sx _ _ _ | .fx _ _ _
  | .wait _ _ _ | .evt _ _ _ | .evw _ _ _ | .rdr _ _ _ | .wrr _ _ _ | .lmode _ _ _ | .lchan _ _ | .ltrig _ _ | .lswap _ _ | .pop _ _ _
  | .phdr _ _ _ | .iexc _ _ _ | .vexc _ _ | .tia _ _ _ | .calq _ _ _ | .fswOn _ _ | .fswOff _ _ | .fswClear _ _ | .aout _ _ _
  | .aoctl _ _ _ | .crv _ _ _ | .lka _ _ _ | .lkr _ _ _ | .nsend _ _ _ | .tsend _ _ _ | .hostBooking | .twinBooking | .netrxBooking
  | .telemBooking | .calBooking | .flashBooking | .sectorReset _ | .sectorResetComplete _ | .start _ _ | .stop _ _ | .cmdReset _ _
  | .secSupvWrite _ _ _ | .secDbellWrite _ _ _ | .watchdogKick _ _ | .wdgw _ | .watchdogExpiry _ | .wdg | .virtualLineChange _ _
  | .laneTimeShareExhausted _ | .domainTransitionStart _ | .domainTransitionComplete _ | .pendingTransitionStart _
  | .laneAutoRetention _ | .lanePllStart | .hcs | .tact | .ned | .wakeRaiseHoldExpiry _ | .xkeepWrite _ | .crystalStandbyReached
  | .scfail | .slowClockToCrystal | .mdivApply _ | .regulatorToLow | .borLowmode | .postCommit | .ledgerTickClose _ _ _ | .ledgerZero _
  | .storePost _ | .stale | .thermalSample _ | .agecIncrement | .clamp _ | .lplim _ | .descriptorCommit _ _ _ | .profileCommit _ _ _
  | .thresholdSetCommit _ _ _ | .crvPdAccess _ _ | .laneCommandEffect _ | .laneFrameTrigger _ | .chainReset _ | .gatingWindowClose _
  | .shadowTimeout _ | .laneHcmd _ _ | .laneReset _ _ | .calMeasurementEnd _ | .calStoreRetry | .fswTurnonComplete _
  | .fswTurnoffComplete _ | .fswLimit _ _ | .fswLatchOff _ | .fswTrip _ _ | .fswRetry _ _ | .rcntClear _ | .vfldUvlo | .vfldUvloRelease
  | .outputMonitorSample _ _ | .aoRangeComplete _ | .outputPendingStart _ | .sharedOutputDrive | .hcsFall _ | .rdreg _ | .rdmem _
  | .rdstrm _ | .status _ | .trunc _ _ _ | .hostDirectService | .uncoll | .hwexp | .sysKeyWrite _ _ | .sysKeyExpiry | .registerWrite _ _ _
  | .periodWrite _ _ | .tangentTurnStart _ _ | .ackReceived _ | .rtx | .heartbeatMiss _ | .trainResend | .trainingTimeout
  | .retryTimerExpiry | .presenceChange | .claimAttempt _ | .claimProbe _ | .yield _ | .retrain _ | .twRxPop _ _ | .shadowRecordExpiry _
  | .linkUp _ _ | .ldown | .netFrameReceived _ | .arpRequest _ | .icmpEchoRequest _ | .transmitStart | .transmitDone | .txto
  | .netRxPop _ _ | .seqRestoreCommit _ _ _ | .read _ _ _ | .prog _ _ _ | .erase _ _ _ | .append _ _ _ | .recent _ _ _ | .eraseSuspend
  | .flashArrayStepDone _ | .flashOpComplete | .logEntryWrite | .thermosDataAccess _ _ | .otpProgram _ _ | .otpProgramDone | .bor | .pin
  | .soft _ | .aonReady | .strapSample _ _ | .policyRead | .journalScan | .bootSlotLoad | .bootStart | .guestLoad _ _
  | .gpFuncWrite _ _ _ | .gpParkEnd _ | .gpEdge _ _ | .wakePinEdge _ | .vddioLoss | .vddioResume | .vsysLoss _
  | .hostHeaderReject _ _ _ _ | .tangentFrameError _ | .negotiationComplete | .excitationLimit _ | .tiasat _ | .aoutRampComplete _ => true

end Sys2Proof
end

