-- ==== Sys2Proof/Certificates/Slice0/Obligations.lean ====
section
/-! DEFINITION. The statements about the block. Each docstring says what its statement says and which rules of spec/ it rests on. -/

open Sys2Proof Sys2Proof.Machine

/-- For every command c and state s, a step of s with c at the front of its queue is exec of c on s with the rest of the queue.
(01_frame_and_machine.md) -/
def Obligations.StepRunsFrontCommand : Prop :=
  ∀ (s : State) (c : Instr) (rest : List Instr), s.pending = c :: rest → step s = exec c { s with pending := rest }

/-- After reset the queue is empty, every register reads its POR value, CLK_TICK is 0, sector 0 holds every lane and unit, the guests none,
no sector runs, every domain is OFF and nothing is listed in Hamper. The Hamper contents at reset are the model's choice
(notes/assumptions/16.md). (05_sectors.md Tables SEC-10 to SEC-12, 06_clocks_and_power_domains.md R133, R141, 16_reset_and_boot.md,
18_register_map.md Table MAP-16) -/
def Obligations.ResetState : Prop :=
  State.reset.pending = [] ∧ (∀ a, State.reset.word a = regPor a) ∧ State.reset.tick = 0 ∧
    (∀ i : LaneId, State.reset.hasLane 0 i = true) ∧ (∀ k : Fin 16, State.reset.hasUnit 0 k = true) ∧
    (∀ (n : Sector) (i : LaneId), n ≠ 0 → State.reset.hasLane n i = false) ∧
    (∀ n : Sector, State.reset.stopped n = true) ∧ (∀ d : Dom, (State.reset.dom d).state = .off) ∧ State.reset.mem.hamper = []

/-- Every sparse memory of the reset state is in its canonical form, so the premise of the statements below holds at reset.
(12_hamper_thermos_flash.md) -/
def Obligations.ResetMemoryCanonical : Prop := Memory.wf State.reset = true

/-- From every state whose sparse memories (registers, stale copies, instruction memory, Hamper, Thermos, flash, erase counts, OTP and the
marks of damaged words) are canonical, a step that answers a next state leaves them canonical: whatever the command, no address is
listed twice or out of order, and none with the value an unlisted one reads as. (03_iznath_machine.md R79, 12_hamper_thermos_flash.md,
18_register_map.md R412) -/
def Obligations.StepKeepsMemoryCanonical : Prop :=
  ∀ s t : State, Memory.wf s = true → step s = .next t → Memory.wf t = true

/-- w0 reads as 0 and p0 as 1, a write to either changes nothing; any other register reads what was written to it last, and a write leaves
the other registers alone. (03_iznath_machine.md Table IZN-1) -/
def Obligations.ZeroRegisters : Prop :=
  ∀ (x : SectorSt) (v : Word) (b : Bool) (r q : Fin 16) (i j : Fin 8),
    x.rdW 0 = 0 ∧ x.rdP 0 = true ∧ x.wrW 0 v = x ∧ x.wrP 0 b = x ∧
      (r ≠ 0 → (x.wrW r v).rdW q = if q = r then v else x.rdW q) ∧
      (i ≠ 0 → (x.wrP i b).rdP j = if j = i then b else x.rdP j) ∧
      (x.wrW r v).rdP j = x.rdP j ∧ (x.wrP i b).rdW q = x.rdW q

/-- NOP, ADD, SUB, ADDI, AND, OR, XOR, MIN, MAX, SHLI, SHRI, SRAI, SHLV and SRAV, issued by an undisturbed segment, complete: wD holds the
result of Table INS-1 after the cycle (w0 discards it), a long immediate replaces B, shifts use the full unsigned count, one issue cycle
has passed, and nothing else changes: no flag, no other register, no memory. (04_iznath_instructions.md Table INS-1, R92,
03_iznath_machine.md R61, R62) -/
def Obligations.SlotAWrapping : Prop :=
  ∀ (s : State) (g : RunSeg) (d a b : Fin 16) (imm : Option Word), Undisturbed s g 1 →
    let x := s.secs[g.sec]
    let vA := x.rdW a
    let vB := imm.getD (x.rdW b)
    let vI := imm.getD (BitVec.ofNat 18 b)
    let gives (c : Instr) (v : Word) : Prop := exec c s = .next (s.issued g 1 (·.wrW d v))
    exec .nop s = .next (s.issued g 1 id) ∧
      gives (.add d a b imm) (vA + vB) ∧ gives (.sub d a b imm) (vA - vB) ∧ gives (.addi d a b imm) (vA + vI) ∧
      gives (.and d a b imm) (vA &&& vB) ∧ gives (.or d a b imm) (vA ||| vB) ∧ gives (.xor d a b imm) (vA ^^^ vB) ∧
      gives (.min d a b imm) (if vA.toInt ≤ vB.toInt then vA else vB) ∧
      gives (.max d a b imm) (if vA.toInt ≤ vB.toInt then vB else vA) ∧
      gives (.shli d a b imm) (vA <<< vI.toNat) ∧ gives (.shri d a b imm) (vA >>> vI.toNat) ∧
      gives (.srai d a b imm) (vA.sshiftRight vI.toNat) ∧ gives (.shlv d a b imm) (vA <<< vB.toNat) ∧
      gives (.srav d a b imm) (vA.sshiftRight vB.toNat)

/-- ADDS, SUBS, ABS and SAT, issued by an undisturbed segment, complete: wD holds the exact result clamped to the signed range of 18 bits
(for SAT, of imm4 + 2 bits), SAT sets exactly when the clamp changes the value, and nothing else changes. (04_iznath_instructions.md
Table INS-1, R88, 03_iznath_machine.md R61, R62) -/
def Obligations.SlotASaturating : Prop :=
  ∀ (s : State) (g : RunSeg) (d a b : Fin 16) (imm : Option Word), Undisturbed s g 1 →
    let x := s.secs[g.sec]
    let vA := (x.rdW a).toInt
    let vB := (imm.getD (x.rdW b)).toInt
    let gives (c : Instr) (bits : Nat) (v : Int) : Prop :=
      let w := max (-(2 ^ (bits - 1))) (min v (2 ^ (bits - 1) - 1))
      exec c s = .next ((s.issued g 1 (·.wrW d (BitVec.ofInt 18 w))).flagged (decide (w ≠ v)) (F.SEQ_FLAG_SAT g.sec))
    gives (.adds d a b imm) 18 (vA + vB) ∧ gives (.subs d a b imm) 18 (vA - vB) ∧ gives (.abs d a b imm) 18 vA.natAbs ∧
      gives (.sat d a b imm) (b.val + 2) vA

/-- CMPEQ, CMPLT, CMPLE, CMPLTU, PAND, POR and PXOR, issued by an undisturbed segment, complete: the predicate of d[2:0] holds the result of
Table INS-1 after the cycle, complemented when d[3] = 1 (p0 discards it); a[3] and b[3] complement the sources of the logic; nothing
else changes. (04_iznath_instructions.md Table INS-1, R86) -/
def Obligations.SlotAPredicates : Prop :=
  ∀ (s : State) (g : RunSeg) (d a b : Fin 16) (imm : Option Word), Undisturbed s g 1 →
    let x := s.secs[g.sec]
    let vA := x.rdW a
    let vB := imm.getD (x.rdW b)
    let pA := x.rdP (predIx a) ^^ decide (8 ≤ a.val)
    let pB := x.rdP (predIx b) ^^ decide (8 ≤ b.val)
    let gives (c : Instr) (v : Bool) : Prop := exec c s = .next (s.issued g 1 (·.wrP (predIx d) (v ^^ decide (8 ≤ d.val))))
    gives (.cmpeq d a b imm) (decide (vA = vB)) ∧ gives (.cmplt d a b imm) (decide (vA.toInt < vB.toInt)) ∧
      gives (.cmple d a b imm) (decide (vA.toInt ≤ vB.toInt)) ∧ gives (.cmpltu d a b imm) (decide (vA.toNat < vB.toNat)) ∧
      gives (.pand d a b imm) (pA && pB) ∧ gives (.por d a b imm) (pA || pB) ∧ gives (.pxor d a b imm) (pA ^^ pB)

/-- MUL, MAC, MSU, MOVA, ADDA, SUBA, MOVIA and ASR, issued by an undisturbed segment and followed by two bundles that do nothing, complete:
the accumulator of d[1:0] then holds the result of Table INS-2, saturated to 48 bits with AOV set exactly when the clamp changes it, and
nothing else changes; while the result is in flight the accumulators read as before. (04_iznath_instructions.md Table INS-2, R94,
03_iznath_machine.md R61 to R63) -/
def Obligations.SlotKAccumulators : Prop :=
  ∀ (s : State) (g : RunSeg) (d a b : Fin 16) (imm : LongImm), Undisturbed s g 3 →
    let x := s.secs[g.sec]
    let vA := (x.rdW a).toInt
    let vB := (kReg x b imm).toInt
    let acc := (x.rdA (accIx d)).toInt
    let gives (c : Instr) (v : Int) : Prop :=
      let w := max (-(2 ^ 47)) (min v (2 ^ 47 - 1))
      ThenTwoNops c s ((s.issued g 3 (·.wrA (accIx d) (BitVec.ofInt 48 w))).flagged (decide (w ≠ v)) (F.SEQ_FLAG_AOV g.sec)) ∧
        Completes c s fun t => ∀ n : Sector, t.secs[n].a = s.secs[n].a
    gives (.mul d a b imm) (vA * vB) ∧ gives (.mac d a b imm) (acc + vA * vB) ∧ gives (.msu d a b imm) (acc - vA * vB) ∧
      gives (.mova d a b imm) vA ∧ gives (.adda d a b imm) (acc + vA) ∧ gives (.suba d a b imm) (acc - vA) ∧
      gives (.movia d a b imm) (match imm with | .none => (b.val : Int) | .imm18 v => v.toInt | .imm36 v => v.toInt) ∧
      gives (.asr d a b imm) ((x.rdA (accIx a)).toInt / 2 ^ kCount b imm)

/-- EXT, EXTH and EXTL, issued by an undisturbed segment and followed by two bundles that do nothing, complete: wD holds the rounded and
saturated field of the accumulator that Table INS-2 gives, SAT sets exactly when the clamp changes the value, and nothing else changes.
(04_iznath_instructions.md Table INS-2, R94) -/
def Obligations.SlotKExtracts : Prop :=
  ∀ (s : State) (g : RunSeg) (d a b : Fin 16) (imm : LongImm), Undisturbed s g 3 →
    let acc := (s.secs[g.sec].rdA (accIx a)).toInt
    let k := kCount b imm
    let r := (acc + (if k = 0 then 0 else 2 ^ (k - 1))) / 2 ^ k
    let clamp (n : Nat) (v : Int) : Int := max (-(2 ^ (n - 1))) (min v (2 ^ (n - 1) - 1))
    let dw := BitVec.ofInt 36 (clamp 36 acc)
    let gives (c : Instr) (v : Word) (sat : Bool) : Prop :=
      ThenTwoNops c s ((s.issued g 3 (·.wrW d v)).flagged sat (F.SEQ_FLAG_SAT g.sec))
    gives (.ext d a b imm) (BitVec.ofInt 18 (clamp 18 r)) (decide (clamp 18 r ≠ r)) ∧
      gives (.exth d a b imm) (dw.extractLsb' 18 18) (decide (clamp 36 acc ≠ acc)) ∧
      gives (.extl d a b imm) (dw.extractLsb' 0 18) (decide (clamp 36 acc ≠ acc))

/-- LD, the post-increment load and LDD, issued by an undisturbed segment on words in window and undamaged and followed by a bundle that
does nothing, complete: the destination holds the Hamper words at the effective address, the post-increment form also has its base
advanced by imm4 + 1 (replaced by the loaded value when d = a), and nothing else changes, no byte of Hamper among it.
(04_iznath_instructions.md Table INS-3, R96, 03_iznath_machine.md R72) -/
def Obligations.LoadsInWindow : Prop :=
  ∀ (s : State) (g : RunSeg) (d a b : Fin 16) (p q : Nat), Undisturbed s g 2 →
    let x := s.secs[g.sec]
    let ea := x.rdW a + BitVec.ofNat 18 b
    (s.inWindow g.sec ea.toNat = some p → s.hamperUpset p = .none →
      ThenNop (.ld d a b) s (s.issued g 2 (·.wrW d (s.hamperWord p)))) ∧
    (s.inWindow g.sec (x.rdW a).toNat = some p → s.hamperUpset p = .none →
      ThenNop (.ldPostinc d a b) s (s.issued g 2 fun y => (y.wrW a (ea + 1)).wrW d (s.hamperWord p))) ∧
    (s.inWindow g.sec ea.toNat = some p → s.hamperUpset p = .none → s.inWindow g.sec (ea + 1).toNat = some q → s.hamperUpset q = .none →
      ThenNop (.ldd d a b) s (s.issued g 2 (·.wrA (accIx d) ((s.hamperWord p ++ s.hamperWord q).signExtend 48))))

/-- ST, the post-increment store and STD, issued by an undisturbed segment on words in window, complete: the word at the effective address
(for STD both words, the upper half of sat36 of the accumulator first) holds the stored value, EVERY OTHER WORD of Hamper reads as
before, the base advances in the post-increment form, SAT sets for STD exactly when the clamp changes the value, and no other part of
the state changes but the segment's progress. (04_iznath_instructions.md Table INS-3, R95, R96, 03_iznath_machine.md R72) -/
def Obligations.StoresInWindow : Prop :=
  ∀ (s : State) (g : RunSeg) (d a b : Fin 16) (p q : Nat), Undisturbed s g 1 → Memory.wf s = true →
    let x := s.secs[g.sec]
    let ea := x.rdW a + BitVec.ofNat 18 b
    let acc := (x.rdA (accIx d)).toInt
    let w := max (-(2 ^ 35)) (min acc (2 ^ 35 - 1))
    let dw := BitVec.ofInt 36 w
    let stored (t : State) (sat : Bool) (f : SectorSt → SectorSt) (u : Nat → Word) : Prop :=
      (∀ k, t.hamperWord k = u k) ∧
        ({ t with mem := { t.mem with hamper := s.mem.hamper, upset := s.mem.upset } } : State) =
          (s.issued g 1 f).flagged sat (F.SEQ_FLAG_SAT g.sec)
    (s.inWindow g.sec ea.toNat = some p →
      Completes (.st d a b) s fun t => stored t false id fun k => if k = p then x.rdW d else s.hamperWord k) ∧
    (s.inWindow g.sec (x.rdW a).toNat = some p →
      Completes (.stPostinc d a b) s fun t => stored t false (·.wrW a (ea + 1)) fun k => if k = p then x.rdW d else s.hamperWord k) ∧
    (s.inWindow g.sec ea.toNat = some p → s.inWindow g.sec (ea + 1).toNat = some q →
      Completes (.std d a b) s fun t => stored t (decide (w ≠ acc)) id fun k =>
        if k = q then dw.extractLsb' 0 18 else if k = p then dw.extractLsb' 18 18 else s.hamperWord k)

/-- A load that is not in window (LDD: both words) writes 0 to its destination and a store writes nothing; each word sets WIN and counts 1
in WINCNT (which stays at 255), and a post-increment still takes place. No other register changes, so no breach is raised, and no memory
changes, so nothing is logged. (R73) -/
def Obligations.WindowMiss : Prop :=
  ∀ (s : State) (g : RunSeg) (d a b : Fin 16), Undisturbed s g 2 → Memory.wf s = true →
    let x := s.secs[g.sec]
    let ea := x.rdW a + BitVec.ofNat 18 b
    let missed (words cycles : Nat) (f : SectorSt → SectorSt) (t : State) : Prop :=
      t.isSet (F.SEQ_FLAG_WIN g.sec) = true ∧
        t.get (F.SEQ_FLAG_WINCNT g.sec) = min 255 (s.get (F.SEQ_FLAG_WINCNT g.sec) + words) ∧
        RegsKept [A.SEQ_FLAG g.sec] s t ∧ Keeps [.regs, .flips, .eng, .secs] s t ∧
        t.secs[g.sec] = { f x with cycles := x.cycles + cycles } ∧ ∀ n : Sector, n ≠ g.sec → t.secs[n] = s.secs[n]
    (s.inWindow g.sec ea.toNat = none →
      (∃ t, ThenNop (.ld d a b) s t ∧ missed 1 2 (·.wrW d 0) t) ∧ Completes (.st d a b) s (missed 1 1 id) ∧
      (s.inWindow g.sec (ea + 1).toNat = none →
        (∃ t, ThenNop (.ldd d a b) s t ∧ missed 2 2 (·.wrA (accIx d) 0) t) ∧ Completes (.std d a b) s (missed 2 1 id))) ∧
    (s.inWindow g.sec (x.rdW a).toNat = none →
      (∃ t, ThenNop (.ldPostinc d a b) s t ∧ missed 1 2 (fun y => (y.wrW a (ea + 1)).wrW d 0) t) ∧
      Completes (.stPostinc d a b) s (missed 1 1 (·.wrW a (ea + 1))))

/-- BR, CALL and RET, issued by an undisturbed segment with no redirect pending and followed by two bundles that do nothing (the delay
bundles, fetched in sequence), complete: the bundle issued third after them is the target, (own address + sext(s12)) mod 8192 or the
return address popped; CALL pushes its own address plus 3, a full stack losing its oldest entry with RSO; RET on an empty stack is not
taken and sets RSU. Nothing else changes. (03_iznath_machine.md R66, R67, 04_iznath_instructions.md Table INS-4, R98) -/
def Obligations.BranchesRedirect : Prop :=
  ∀ (s : State) (g : RunSeg) (off : BitVec 12) (d a b : Fin 16), Undisturbed s g 3 → g.redirects = [] →
    let st := s.secs[g.sec].stack
    let target := (((g.pc : Int) + off.toInt) % 8192).toNat
    let redirected (c : Instr) (pc : Nat) (flag : Bool) (stack : List (BitVec 13)) : Prop :=
      ThenTwoNops c s
        ((((s.issued g 3 fun x => { x with stack := stack }).setSeg { g.advanced 3 with pc := pc })).flagged flag (F.SEQ_FLAG_RSO g.sec)) ∧
        Completes c s fun t => t.eng.cur.map (·.pc) = some ((g.pc + 1) % 8192)
    redirected (.br off) target false st ∧
      redirected (.call off) target (decide (4 ≤ st.length)) ((BitVec.ofNat 13 ((g.pc + 3) % 8192) :: st).take 4) ∧
      (∀ r rest, st = r :: rest → redirected (.ret d a b) r.toNat false rest) ∧
      (st = [] → exec (.ret d a b) s = .next ((s.issued g 1 id).flagged true (F.SEQ_FLAG_RSU g.sec)))

/-- SX and FX, issued by an undisturbed segment, complete: the segment ends and its drain begins, UNDER sets exactly when the segment ends
before its declared cycles; FX also cancels the sector's remaining segments of the frame and takes those that wait off the engine's
list. WAIT latches the sector's PWR_REQ words. No register but SCH_BSTn changes. (03_iznath_machine.md R68, R70, 02_schedule_contract.md
R32) -/
def Obligations.SegmentEnds : Prop :=
  ∀ (s : State) (g : RunSeg) (d a b : Fin 16), Undisturbed s g 1 → Memory.wf s = true → g.cancel = false →
    let n := g.sec
    let ended (t : State) : Prop :=
      t.eng.cur = none ∧ t.eng.drain = some n ∧ t.eng.flights = [] ∧
        (t.isSet (F.SCH_BST_UNDER n) = (s.isSet (F.SCH_BST_UNDER n) || decide (g.cyc + 1 < g.seg.dcyc))) ∧
        RegsKept [A.SCH_BST n] s t ∧ Keeps [.regs, .flips, .eng, .secs] s t
    (Completes (.sx d a b) s fun t => ended t ∧ t.eng.waiting = s.eng.waiting ∧ t.secs[n].cancelled = s.secs[n].cancelled) ∧
      (Completes (.fx d a b) s fun t => ended t ∧ t.eng.waiting = s.eng.waiting.filter (fun w => w.sec ≠ n) ∧ t.secs[n].cancelled = true) ∧
      exec (.wait d a b) s = .next (s.issued g 1 fun x =>
        { x with latch := some ⟨s.word (A.PWR_REQA n), s.word (A.PWR_REQB n), s.word (A.PWR_REQC n)⟩ })

/-- EVT, issued by an undisturbed segment, writes event bit {a[0], b} to its predicate and clears that event and no other; EVW, followed by
a bundle that does nothing, writes the sixteen events of the half that b[0] names, bits [17:16] 0, and clears none.
(04_iznath_instructions.md Table INS-5) -/
def Obligations.EventSyllables : Prop :=
  ∀ (s : State) (g : RunSeg) (d a b : Fin 16), Undisturbed s g 2 → Memory.wf s = true →
    let n := g.sec
    let e := 16 * (a.val % 2) + b.val
    (Completes (.evt d a b) s fun t =>
      t.secs[n] = { s.secs[n].wrP (predIx d) (s.event n e ^^ decide (8 ≤ d.val)) with cycles := s.secs[n].cycles + 1 } ∧
        t.event n e = false ∧ (∀ k, k ≠ e → t.event n k = s.event n k) ∧
        RegsKept [A.SEC_EVL n, A.SEC_EVH n] s t ∧ Keeps [.regs, .flips, .eng, .secs] s t) ∧
      ThenNop (.evw d a b) s (s.issued g 2 (·.wrW d (BitVec.ofNat 18
        (((List.range 16).map fun j => if s.event n (16 * (b.val % 2) + j) then 2 ^ j else 0).sum))))

/-- An address from C00h up becomes its low ten bits; a result in 300h to 3FFh has bit 5 cleared; no other address changes; a resolved
address resolves to itself. (18_register_map.md Table MAP-1, R411) -/
def Obligations.AddressResolution : Prop :=
  ∀ a : BitVec 12,
    let x : BitVec 12 := if 0xC00 ≤ a.toNat then a &&& 0x3FF else a
    resolve a = (if 0x300 ≤ x.toNat ∧ x.toNat ≤ 0x3FF then x &&& ~~~ 0x20 else x).toNat ∧ resolve (BitVec.ofNat 12 (resolve a)) = resolve a

/-- A write by a command, a write by a program and a read give the same state and word for any two addresses that resolve alike, whoever
makes them. With CORE ON the key written to C10h arms SYS_KEY, E0Bh is the kick register of sector 0, and a permitted read at or above
C00h never changes state. (18_register_map.md R412) -/
def Obligations.AliasesActAlike : Prop :=
  (∀ (s : State) (acc : Accessor) (a b : BitVec 12) (v : Word), resolve a = resolve b →
    exec (.registerWrite acc a v) s = exec (.registerWrite acc b v) s ∧ s.readReg acc a = s.readReg acc b ∧
      s.writeReg acc a v = s.writeReg acc b v ∧ s.isCopy (resolve a) = s.isCopy (resolve b)) ∧
    (∀ (s : State) (acc : Accessor) (a : BitVec 12), 0xC00 ≤ a.toNat → (s.readReg acc a).denied = false → (s.readReg acc a).state = s) ∧
    (∀ (s : State) (acc : Accessor), Memory.wf s = true → s.isOn .core = true → Completes (.registerWrite acc 0xC10 0x2C3A5) s fun t => t.armed = true) ∧
    resolve 0xE0B = A.SEC_WDK 0

/-- At an address that no register has, a read by any accessor returns 0 without being denied and changes nothing, and a write, which
answers neither DENIED nor OWNED, changes nothing but that, with CORE ON, it disarms SYS_KEY: no flag, no count, no log entry. RDR of one
writes 0, WRR of one only disarms. With CORE not ON its write strobes are clamped, so a write of any register changes nothing at all.
(18_register_map.md R413) -/
def Obligations.ReservedAddresses : Prop :=
  (∀ (s : State) (acc : Accessor) (a : BitVec 12) (v : Word), Memory.wf s = true → regAt (resolve a) = none →
    s.readReg acc a = ⟨0, false, s⟩ ∧ (s.writeReg acc a v).denied = false ∧ (s.writeReg acc a v).owned = false ∧
      Completes (.registerWrite acc a v) s fun t => (s.isOn .core = true → t.armed = false) ∧
        RegsKept [A.SYS_KEY] s t ∧ Keeps [.regs, .flips, .host] s t ∧ { t.host with keyTicks := s.host.keyTicks } = s.host) ∧
    (∀ (s : State) (acc : Accessor) (a : BitVec 12) (v : Word), s.isOn .core = false → exec (.registerWrite acc a v) s = .next s) ∧
    ∀ (s : State) (g : RunSeg) (d a b : Fin 16), Undisturbed s g 2 →
      regAt (resolve ((s.secs[g.sec].rdW a + BitVec.ofNat 18 b).setWidth 12)) = none →
        ThenNop (.rdr d a b) s (s.issued g 2 (·.wrW d 0)) ∧
          exec (.wrr d a b) s = .next ((if s.isOn .core = true then s.disarm else s).issued g 1 id)

/-- RDR, issued by an undisturbed segment on a register that the sector may read and whose read has no side effect, and followed by a bundle
that does nothing, writes to wD the register's word, each S field from its stale copy, and changes nothing else; on one the sector may
not read it writes 0, sets REGDN and counts in XCNT. WRR of every such segment completes: it does what a register write of the same
sector does, and its issue cycle passes; of LANE_CTL of a granted lane, with CORE ON, it puts the written value in the register's fields,
and of any register, with CORE not ON, nothing but the cycle passes. (04_iznath_instructions.md R100, R90,
06_clocks_and_power_domains.md R139, R142, 18_register_map.md R414) -/
def Obligations.RegisterSyllables : Prop :=
  ∀ (s : State) (g : RunSeg) (d a b : Fin 16) (r : RegRow) (ix : List Nat), Undisturbed s g 2 → Memory.wf s = true →
    let n := g.sec
    let addr := (s.secs[n].rdW a + BitVec.ofNat 18 b).setWidth 12
    let mine := s.mayAs (.prog n) r.reader r.base (ix.headD 0)
    (regAt (resolve addr) = some (r, ix) → r.reader ≠ .nobody → resolve addr ∉ [A.CRV_PD, A.MEM_THD, A.MEM_OTPD] →
      (mine = true → ThenNop (.rdr d a b) s (s.issued g 2 (·.wrW d (s.shown (resolve addr) r)))) ∧
      (mine = false → ∃ t, ThenNop (.rdr d a b) s t ∧ t.isSet (F.SEQ_XST_REGDN n) = true ∧
        t.get (F.SEQ_XST_XCNT n) = min 255 (s.get (F.SEQ_XST_XCNT n) + 1) ∧ RegsKept [A.SEQ_XST n] s t ∧
        t.secs[n] = { s.secs[n].wrW d 0 with cycles := s.secs[n].cycles + 2 })) ∧
      exec (.wrr d a b) s = .next (s.writeReg (.prog n) addr (s.secs[n].rdW d)).state.closeBundle ∧
      (∀ u, exec (.registerWrite (.prog n) addr (s.secs[n].rdW d)) s = .next u → u.eng = s.eng →
        exec (.wrr d a b) s = .next (u.issued g 1 id)) ∧
      (s.isOn .core = false → exec (.wrr d a b) s = .next (s.issued g 1 id)) ∧
      ∀ i : LaneId, s.isOn .core = true → resolve addr = A.LANE_CTL i → s.hasLane n i = true → Completes (.wrr d a b) s fun t =>
        t.word (A.LANE_CTL i) = (s.word (A.LANE_CTL i) &&& 0x7000) ||| (s.secs[n].rdW d &&& 0x38FFF) ∧
          RegsKept [A.SYS_KEY, A.LANE_CTL i] s t ∧ Keeps [.regs, .flips, .eng, .secs, .host] s t ∧
          t.eng = (s.issued g 1 id).eng ∧ t.secs = (s.issued g 1 id).secs

/-- A bundle fetched undamaged from the sector's region with IMEM ON, issued by an undisturbed segment, completes: with its predicate
failing nothing but the cycle passes; with it holding and operations in slot A alone, END clear, it does exactly what that slot-A syllable
does; a fetch outside the region issues nothing, sets IFLT, and the segment goes on; with IMEM not ON the data fetched is 0, which does
nothing. (03_iznath_machine.md R57, R71, R56, Tables IZN-2, IZN-3, 06_clocks_and_power_domains.md R142) -/
def Obligations.BundleIssues : Prop :=
  ∀ (s : State) (g : RunSeg), Undisturbed s g 1 →
    let n := g.sec
    (s.fetchAddr n g.pc = none → exec (.bundleIssue .none) s = .next ((s.setFlag (F.SEQ_FLAG_IFLT n)).issued g 1 id)) ∧
    (∀ (p : Nat) (u : Upset), s.fetchAddr n g.pc = some p → s.isOn .imem = false → exec (.bundleIssue u) s = .next (s.issued g 1 id)) ∧
    ∀ p : Nat, s.fetchAddr n g.pc = some p → s.isOn .imem = true → storeRead (fun _ => Upset.none) s.eng.imemUpset p = .none →
      let v := splitBundle (s.bundleAt p)
      v.endBit = false →
        (v.runs s.secs[n] = false → exec (.bundleIssue .none) s = .next (s.issued g 1 id)) ∧
        (v.runs s.secs[n] = true → v.pair = 0 → v.slotK = 0 → v.slotM = 0 → v.slotX = 0 →
          exec (.bundleIssue .none) s = .next (issueAlone (fun m => slotA m v.slotA none) s) ∧
          (sylOp v.slotA = 1 → exec (.bundleIssue .none) s = exec (.add (sylD v.slotA) (sylA v.slotA) (sylB v.slotA) none) s))

/-- LMODE, LCHAN, LTRIG and LSWAP for a granted lane with room in its queue and lane-time share left (LMODE to CAL and LCHAN also with the
descriptor granted, CAL with lock 7 held) complete: the command stands last in the lane's queue, and nothing of any lane changes
otherwise, but that a host command held for the lane is marked as overtaken by sector 0. No register changes. (04_iznath_instructions.md
R102, Table INS-6, 09_lanes_and_filters.md R219, R232) -/
def Obligations.LaneCommandsQueue : Prop :=
  ∀ (s : State) (g : RunSeg) (d a b : Fin 16), Undisturbed s g 1 →
    let n := g.sec
    let i := laneIx d
    let p := s.secs[n].rdW a
    let queued (c : Instr) (k : LaneCmd) : Prop := Completes c s fun t =>
      t.lanes[i] = { s.lanes[i] with
        queue := s.lanes[i].queue ++ [k]
        hcmdAfter := s.lanes[i].hcmdAfter || (decide (n = 0) && s.lanes[i].hcmd.isSome) } ∧
      (∀ j : LaneId, j ≠ i → t.lanes[j] = s.lanes[j]) ∧ Keeps [.eng, .secs, .lanes, .pwr] s t
    s.hasLane n i = true → s.lanes[i].queue.length < 4 → s.laneTimeOut i = false →
      (b.val < 12 → (b = 9 → s.hasDesc n (p.toNat % 64) = true ∧ s.holds n 7 = true) → queued (.lmode d a b) (.mode b p)) ∧
      (s.hasDesc n (p.toNat % 64) = true → queued (.lchan d a) (.chan (p.toNat / 64 % 16) (p.toNat % 64))) ∧
      queued (.ltrig d a) .trig ∧ queued (.lswap d a) .swap

/-- POP of a granted lane's FIFO, followed by a bundle that does nothing, writes the value of its oldest sample to wD, takes that sample out
and remembers its header; PHDR writes the header of the sample last popped from the lane, or 3FFFFh where there is none. Nothing else
changes. (04_iznath_instructions.md R103) -/
def Obligations.FifoPops : Prop :=
  ∀ (s : State) (g : RunSeg) (d a b : Fin 16), Undisturbed s g 2 →
    let i := laneIx b
    s.hasLane g.sec i = true →
      (∀ v rest, s.lanes[i].fifo = v :: rest →
        ThenNop (.pop d a b) s ((s.onLane i fun x => { x with fifo := rest }).issued g 2 fun x =>
          ({ x with lastPop := x.lastPop.set i (some v.header) }).wrW d v.value)) ∧
      ThenNop (.phdr d a b) s (s.issued g 2 (·.wrW d (s.secs[g.sec].lastPop[i].getD 0x3FFFF)))

/-- A lane command, POP, PHDR, a unit command, CALQ, LKA, LKR or CRV that names a lane, unit or descriptor not granted to the sector is
suppressed: NOGR sets, XCNT counts it (up to 255), and no register but SEQ_XSTn, no lane, lock, output, front-end unit, memory or queue
changes. (04_iznath_instructions.md R90) -/
def Obligations.NotGranted : Prop :=
  ∀ (s : State) (g : RunSeg) (d a b : Fin 16) (u : Fin 4) (w : Fin 2), Undisturbed s g 1 → Memory.wf s = true →
    let n := g.sec
    let suppressed (c : Instr) : Prop := Completes c s fun t =>
      t.isSet (F.SEQ_XST_NOGR n) = true ∧ t.get (F.SEQ_XST_XCNT n) = min 255 (s.get (F.SEQ_XST_XCNT n) + 1) ∧
        RegsKept [A.SEQ_XST n] s t ∧ Keeps [.regs, .flips, .eng, .secs] s t
    (s.hasLane n (laneIx d) = false → (b.val < 12 → suppressed (.lmode d a b)) ∧ suppressed (.lchan d a) ∧ suppressed (.ltrig d a) ∧
      suppressed (.lswap d a)) ∧
    (s.hasLane n (laneIx b) = false → suppressed (.pop d a b) ∧ suppressed (.phdr d a b)) ∧
    (s.hasUnit n u = false → suppressed (.iexc u a b)) ∧ (s.hasUnit n 4 = false → suppressed (.vexc a b)) ∧
    (s.hasUnit n (5 + w) = false → suppressed (.tia w a b)) ∧ (s.hasUnit n 7 = false → suppressed (.calq d a b)) ∧
    (s.hasUnit n (8 + w) = false → suppressed (.aout w a b) ∧ suppressed (.aoctl w a b)) ∧
    (s.hasUnit n (10 + u) = false → suppressed (.fswOn u a) ∧ suppressed (.fswOff u a) ∧ suppressed (.fswClear u a)) ∧
    (s.hasUnit n b = false → suppressed (.lka d a b) ∧ suppressed (.lkr d a b)) ∧
    (s.hasDesc n ((s.secs[n].rdW b).toNat % 64) = false → suppressed (.crv d a b))

/-- A word for a source, the bridge excitation or a TIA from the sector that is granted the unit and holds its lock, not refused and with
the unit free, is in force after the cycle; while a conversion or a calibration uses the unit, the word is held instead and PEND
(sources and VEXC) reads 1; a refused source word only sets STEERX, a refused TIA word TIASTX. No other register changes. A TIA word in force
engages the virtual ground of the pin it connects, one the stage had left not yet released, while no shunt opens and that of a pin no
stage holds closes. (08_front_end.md R187, R193, R194, R196, Tables AFE-12 to AFE-14) -/
def Obligations.ExcitationWords : Prop :=
  ∀ (s : State) (g : RunSeg) (a b : Fin 16) (u : Fin 4) (w : Fin 2), Undisturbed s g 1 → Memory.wf s = true →
    let n := g.sec
    let v := s.secs[n].rdW a
    let frame (regs : List Nat) (t : State) : Prop := RegsKept regs s t ∧ Keeps [.regs, .flips, .eng, .secs, .afe] s t
    let inForce (c : Instr) (reg : Nat) (written taken : Word) : Prop :=
      Completes c s fun t => t.word reg &&& written = v &&& taken ∧ frame [reg] t
    let held (c : Instr) (k : Fin 7) (reg : Nat) (pend : Word) : Prop :=
      Completes c s fun t => t.afe.held[k] = some v ∧ t.word reg = s.word reg ||| pend ∧ frame [reg] t
    let tiaClash := v.getLsbD 17 && s.isSet (F.TIA_CTL_EN (1 - w.val)) && decide (s.get (F.TIA_CTL_LP (1 - w.val)) = bits v 11 10)
    (s.hasUnit n u = true → s.holds n u = true →
      if s.iexcRefused n u v then
        Completes (.iexc u a b) s fun t => t.isSet ⟨A.AFE_STAT, 10 + u, 10 + u⟩ = true ∧ frame [A.AFE_STAT] t ∧ t.afe = s.afe
      else if s.unitBusy u then held (.iexc u a b) ⟨u, by omega⟩ (A.IEXC_CTL u) 1
      else inForce (.iexc u a b) (A.IEXC_CTL u) 0x3FFFD 0x3FFFC) ∧
    (s.hasUnit n 4 = true → s.holds n 4 = true →
      if s.unitBusy 4 then held (.vexc a b) 4 A.VEXC_CTL 1 else inForce (.vexc a b) A.VEXC_CTL 0x3C001 0x3C000) ∧
    (s.hasUnit n (5 + w) = true → s.holds n (5 + w) = true →
      if tiaClash then
        Completes (.tia w a b) s fun t => t.isSet ⟨A.AFE_STAT, 8 + w, 8 + w⟩ = true ∧ frame [A.AFE_STAT] t ∧ t.afe = s.afe
      else if s.unitBusy (5 + w) then held (.tia w a b) ⟨5 + w, by omega⟩ (A.TIA_CTL w) 0
      else inForce (.tia w a b) (A.TIA_CTL w) 0x3FFFF 0x38C00 ∧
        Completes (.tia w a b) s fun t => (∀ p, t.tiaPin w = some p → p ∈ t.afe.virt[w]) ∧ (∀ p ∈ s.afe.virt[w], p ∈ t.afe.virt[w]) ∧
          ∀ p : Fin 4, t.afe.shunts[p] = (s.afe.shunts[p] || !t.tiaHolds p))

/-- CLAMP and LPLIM set the pin's flag, and on its change from 0 to 1 event CLAMP in every sector with a lane that names the pin and in no
other; a flag that stands changes nothing. EXCITATION_LIMIT sets its flag of AFE_STAT and nothing else while a source is enabled (for VLLIM
one returned to VLIFT, for VXLIM the bridge excitation), TIASAT while the stage is connected; otherwise they change nothing.
(08_front_end.md R186, R189, R190, R193, R198) -/
def Obligations.FrontEndFlags : Prop :=
  ∀ (s : State) (p : Fin 28) (k : Fin 4) (w : Fin 2), Memory.wf s = true →
    let named (q : Nat) (n : Sector) : Bool :=
      [(0 : LaneId), 1, 2, 3].any fun i => s.hasLane n i && (s.laneDescs i).any fun x => s.namesPin x q
    let clamped (c : Instr) (q : Nat) : Prop := Completes c s fun t =>
      t.isSet (clampFlag q) = true ∧
        if s.isSet (clampFlag q) then t = s
        else (∀ n : Sector, t.event n 15 = (s.event n 15 || named q n)) ∧
          RegsKept [(clampFlag q).addr, A.SEC_EVL 0, A.SEC_EVL 1, A.SEC_EVL 2, A.SEC_EVL 3] s t ∧ Keeps [.regs, .flips] s t
    let flagged (c : Instr) (b : Bool) (f : Fld) : Prop :=
      if b then
        Completes c s fun t => t.isSet f = true ∧ (t.word f.addr &&& ~~~ f.mask = s.word f.addr &&& ~~~ f.mask) ∧ RegsKept [f.addr] s t ∧
          Keeps [.regs, .flips] s t
      else exec c s = .next s
    clamped (.clamp p) p ∧ clamped (.lplim k) (28 + k) ∧
      flagged (.excitationLimit (.cmpx k)) (s.isSet (F.IEXC_CTL_EN k)) ⟨A.AFE_STAT, 14 + k, 14 + k⟩ ∧
      flagged (.excitationLimit .vllim) (decide (∃ u : Fin 4, s.isSet (F.IEXC_CTL_EN u) = true ∧ s.isSet (F.IEXC_CTL_LIFT u) = true))
        F.AFE_STAT_VLLIM ∧
      flagged (.excitationLimit .vxlim) (s.isSet F.VEXC_CTL_EN) F.AFE_STAT_VXLIM ∧
      flagged (.tiasat w) (s.isSet (F.TIA_CTL_EN w) && s.settledOn .tia) ⟨A.AFE_STAT, 6 + w, 6 + w⟩

/-- LKA of a unit granted to the sector, followed by a bundle that does nothing, answers Table INS-9: 0 with pD = 1 and the lock held by the
sector where it was free (1, ABANDONED, where it was freed by a reset or revocation, which ABAND then no longer shows), 2 with pD = 1
where the sector holds it already (1 the first time after a grant of an abandoned lock), 3 with pD = 0 and the sector last among the
waiters where another holds it, 4 with pD = 0 where it waits already. (04_iznath_instructions.md R106, R107, Table INS-9, 05_sectors.md
R125) -/
def Obligations.LockRequests : Prop :=
  ∀ (s : State) (g : RunSeg) (d a k : Fin 16), Undisturbed s g 2 → Memory.wf s = true → s.hasUnit g.sec k = true →
    let n := g.sec
    let answered (st : Nat) (t : State) : Prop :=
      ThenNop (.lka d a k) s t ∧
        t.secs[n] = { (s.secs[n].wrW a (BitVec.ofNat 18 st)).wrP (predIx d) (decide (st ≤ 2) ^^ decide (8 ≤ d.val)) with
          cycles := s.secs[n].cycles + 2 } ∧ Keeps [.regs, .flips, .eng, .secs, .locks] s t ∧ RegsKept [A.LOCK_ST k] s t
    (s.lockHeld k = false → ∃ t, answered (bit (s.isSet (F.LOCK_ST_ABAND k))) t ∧ t.holds n k = true ∧ t.isSet (F.LOCK_ST_ABAND k) = false) ∧
    (s.holds n k = true → ∃ t, answered (if s.locks[k].tell then 1 else 2) t ∧ t.holds n k = true ∧ t.locks[k].tell = false) ∧
    (s.lockHeld k = true → s.lockHolder k ≠ n → n ∈ s.locks[k].waiters →
      ∃ t, answered 4 t ∧ t.locks = s.locks ∧ t.word (A.LOCK_ST k) = s.word (A.LOCK_ST k)) ∧
    (s.lockHeld k = true → s.lockHolder k ≠ n → n ∉ s.locks[k].waiters →
      ∃ t, answered 3 t ∧ t.locks[k].waiters = s.locks[k].waiters ++ [n] ∧ t.lockHolder k = s.lockHolder k)

/-- LKR by the holder of a lock, with no calibration active, frees it; the waiter with the highest priority in LOCK_PRI, among equals the
earliest request, holds it then and has event LOCKGR; with no waiter it stands free. LKR by a waiter withdraws its wait; by a sector
that neither holds nor awaits the lock it only sets ARG and counts. (04_iznath_instructions.md R106, 05_sectors.md R125) -/
def Obligations.LockReleases : Prop :=
  ∀ (s : State) (g : RunSeg) (d a k : Fin 16), Undisturbed s g 1 → Memory.wf s = true → s.hasUnit g.sec k = true → s.cal.active = none →
    let n := g.sec
    let pri (m : Sector) : Nat := (s.word A.LOCK_PRI).toNat / 4 ^ m.val % 4
    (s.holds n k = true →
      (s.locks[k].waiters = [] → Completes (.lkr d a k) s fun t => t.lockHeld k = false) ∧
      ∀ (l₁ l₂ : List Sector) (m : Sector), s.locks[k].waiters = l₁ ++ m :: l₂ → (∀ w ∈ l₁, pri w < pri m) → (∀ w ∈ l₂, pri w ≤ pri m) →
        Completes (.lkr d a k) s fun t => t.holds m k = true ∧ t.event m 1 = true) ∧
    (s.holds n k = false → n ∈ s.locks[k].waiters →
      Completes (.lkr d a k) s fun t => n ∉ t.locks[k].waiters ∧ (∀ m ≠ n, m ∈ s.locks[k].waiters → m ∈ t.locks[k].waiters) ∧
        RegsKept [A.LOCK_ST k] s t ∧ Keeps [.regs, .flips, .eng, .secs, .locks] s t) ∧
    (s.holds n k = false → n ∉ s.locks[k].waiters →
      Completes (.lkr d a k) s fun t => t.isSet (F.SEQ_XST_ARG n) = true ∧
        t.get (F.SEQ_XST_XCNT n) = min 255 (s.get (F.SEQ_XST_XCNT n) + 1) ∧ RegsKept [A.SEQ_XST n] s t ∧ t.locks = s.locks)

/-- CRV of a granted descriptor, issued by an undisturbed segment, completes: for curve 0 the mantissa of the system-corrected input,
saturated, is in flight to wD with 47 cycles to go; for a reserved curve (18 to 23), and for a user curve while lock 15 is held, 20000h
is in flight, CRVX sets and XCNT counts it. The flight tells whether the system correction or the mantissa saturated. When it lands,
with its last cycle, the result is in wD and in LASTV of the descriptor with the tick, and SAT sets where it saturated. (04_iznath_instructions.md
R105, 10_curves_and_calibration.md R235, R236, R241, Table CAL-1) -/
def Obligations.CurveSyllable : Prop :=
  ∀ (s : State) (g : RunSeg) (d a b : Fin 16), Undisturbed s g 1 → Memory.wf s = true →
    let n := g.sec
    let ds := (s.secs[n].rdW b).toNat % 64
    let curve := (s.descWords ds).curve
    let u := s.systemCorrect ds (s.secs[n].rdW a)
    let p (k : Nat) : Word := s.curveWord (4 * ds + k)
    let y := roundShift (u.1.toInt * (p 0).toInt) (min ((p 2).toNat % 64) 47) + (p 1).toInt
    let m := max (-(2 ^ 17)) (min y (2 ^ 17 - 1))
    s.hasDesc n ds = true →
      (curve = 0 → Completes (.crv d a b) s fun t =>
        t.eng.flights = [⟨n, 47, .curve d (BitVec.ofInt 18 m) ds, decide (m ≠ y) || u.2⟩] ∧ Keeps [.eng, .secs] s t) ∧
      (18 ≤ curve ∧ curve ≤ 23 ∨ 24 ≤ curve ∧ s.lockHeld 15 = true → Completes (.crv d a b) s fun t =>
        t.eng.flights = [⟨n, 47, .curve d 0x20000 ds, u.2⟩] ∧ t.isSet (F.SEQ_XST_CRVX n) = true ∧
          t.get (F.SEQ_XST_XCNT n) = min 255 (s.get (F.SEQ_XST_XCNT n) + 1) ∧ t.cal = s.cal ∧ RegsKept [A.SEQ_XST n] s t) ∧
      ∀ (v : Word) (sat : Bool),
        exec .nop { s with eng := { s.eng with flights := [⟨n, 1, .curve d v ds, sat⟩] } } =
          .next (((s.setLastv ds v).issued g 1 (·.wrW d v)).flagged sat (F.SEQ_FLAG_SAT n)) ∧
        (s.setLastv ds v).curveWord (0x100 + ds) = v ∧ (∀ k, k ≠ 0x100 + ds → (s.setLastv ds v).curveWord k = s.curveWord k) ∧
        storeRead (fun _ => none) (s.setLastv ds v).cal.lastv ds = some s.tick

/-- CALQ from the sector that is granted the CAL unit, the lane and (kinds 0 to 2, 5, 6) the descriptor and holds lock 7, followed by a
bundle that does nothing, queues the request with pD = 1 where the engine takes it (fewer than three requests queued, a kind below 7, at
least two sources for kind 3, the locks of the units named held); otherwise pD = 0, nothing is queued and CAL_RESn shows the refusal
code. (10_curves_and_calibration.md R245, Table CAL-7) -/
def Obligations.CalibrationRequests : Prop :=
  ∀ (s : State) (g : RunSeg) (d a b : Fin 16), Undisturbed s g 2 → Memory.wf s = true →
    let n := g.sec
    let r := calRequest n (s.secs[n].rdW a)
    let pD (v : Bool) (t : State) : Prop :=
      t.secs[n] = { s.secs[n].wrP (predIx d) (v ^^ decide (8 ≤ d.val)) with cycles := s.secs[n].cycles + 2 }
    s.hasUnit n 7 = true → s.holds n 7 = true → s.hasLane n r.lane = true →
      (r.kind ≠ 3 → r.kind ≠ 4 → r.kind ≠ 7 → s.hasDesc n r.desc = true) →
      (∀ code, s.calRefusal r = some code → ∃ t, ThenNop (.calq d a b) s t ∧ pD false t ∧ t.cal = s.cal ∧
        t.get (F.CAL_RES_CODE n) = code ∧ RegsKept [A.CAL_RES n] s t) ∧
      (s.cal.queue.length < 3 → r.kind < 7 → (r.kind = 3 → 2 ≤ (maskSources r.mask).length) →
        (∀ k ∈ r.locks, s.holds n k = true) →
        ∃ t, ThenNop (.calq d a b) s t ∧ pD true t ∧ t.cal = { s.cal with queue := s.cal.queue ++ [r] } ∧ t.regs = s.regs)

/-- With at least 256 cycles of a CAL slot left, a CAL_BOOKING starts the first eligible request of the sector whose turn it is: the request
is active and measuring, out of the queue, and its lane is in CAL with a conversion due. A CAL_MEASUREMENT_END of its lane with the conversions of the
measurement done adds their mean to the request; a background request then waits for its next booking with nothing measuring; with a
conversion still due, or of another lane, it does nothing. CAL_STORE_RETRY moves a pending record into the flash queue
when there is room. AGEC_INCREMENT ages every self-calibration set by one, up to 255. (10_curves_and_calibration.md R247, R251, R252) -/
def Obligations.CalibrationEngine : Prop :=
  ∀ (s : State), Memory.wf s = true →
    (∀ (n : Sector) (r : CalReq) (rest : List CalReq), 256 ≤ s.slotRoom 4 → s.cal.active = none → s.calPending = some n →
      takeFirst (fun r => decide (r.sec = n) && s.calEligible r) s.cal.queue = some (r, rest) →
      Completes .calBooking s fun t =>
        t.cal.active = some { r with measuring := true, outs := [] } ∧ t.cal.queue = rest ∧ t.lanes[r.lane].mode = 9 ∧
          t.lanes[r.lane].due = true ∧ t.get (F.LANE_SEQ_SEQ r.lane) = 0) ∧
    (∀ r : CalReq, s.cal.active = some r →
      (r.measuring = true → r.conversions ≤ r.outs.length → r.fg = false →
        Completes (.calMeasurementEnd r.lane) s fun t =>
          t.cal.active = some { r with means := r.means ++ [s.calMean r], measuring := false } ∧ t.cal.queue = s.cal.queue ∧
            Keeps [.regs, .flips, .cal, .afe] s t) ∧
      (∀ i : LaneId, r.measuring = false ∨ r.outs.length < r.conversions ∨ r.lane ≠ i → exec (.calMeasurementEnd i) s = .next s)) ∧
    (∀ b, s.cal.pstore = some b → s.flashFull = false →
      Completes .calStoreRetry s fun t => t.cal.pstore = none ∧ Keeps [.regs, .flips, .cal, .mem] s t ∧
        flashOp 6 0 0 0 0 b ∈ t.mem.fqueue) ∧
    Completes .agecIncrement s fun t => ∀ k < 32,
      (t.curveWord (0x900 + 4 * k + 3)).toNat = min 255 ((s.curveWord (0x900 + 4 * k + 3)).toNat % 256 + 1)

/-- From the sector that is granted a switch and holds its lock, with the FSW domain ON and VFLD up: FSW_ON of an open switch that is not
RELEASED starts TURNON with CMD 1; FSW_OFF of one that conducts starts TURNOFF with CMD 0; FSW_CLEAR of a latched one opens it, clearing
LATCH, RCNT and CMD. DA clears, and no other register changes. While the domain is not ON, or is leaving it, the operation waits last in
the switch's list. (11_field_outputs.md R256, R257, R266, Table OUT-1) -/
def Obligations.SwitchCommands : Prop :=
  ∀ (s : State) (g : RunSeg) (u : Fin 4) (a : Fin 16), Undisturbed s g 1 → Memory.wf s = true →
    s.hasUnit g.sec (10 + u) = true → s.holds g.sec (10 + u) = true →
    let frame (t : State) : Prop :=
      t.isSet (F.OUT_FSW_DA u) = false ∧ RegsKept [A.OUT_FSW u] s t ∧ Keeps [.regs, .flips, .eng, .secs, .out] s t
    let st := s.get (F.OUT_FSW_STATE u)
    (s.settledOn .fsw = true →
      (st = 0 → s.isSet F.OUT_STAT_VUV = false → s.out.fsw[u].rel = false →
        Completes (.fswOn u a) s fun t => t.get (F.OUT_FSW_STATE u) = 1 ∧ t.get (F.OUT_FSW_CMD u) = 1 ∧ frame t) ∧
      (st = 2 ∨ st = 4 → s.isSet F.OUT_STAT_VUV = false → s.out.fsw[u].rel = false →
        Completes (.fswOff u a) s fun t => t.get (F.OUT_FSW_STATE u) = 3 ∧ t.get (F.OUT_FSW_CMD u) = 0 ∧ frame t) ∧
      (st = 5 ∨ st = 6 →
        Completes (.fswClear u a) s fun t => t.get (F.OUT_FSW_STATE u) = 0 ∧ t.get (F.OUT_FSW_LATCH u) = 0 ∧
          t.get (F.OUT_FSW_RCNT u) = 0 ∧ t.get (F.OUT_FSW_CMD u) = 0 ∧ frame t)) ∧
    (s.settledOn .fsw = false →
      let waits (c : Instr) (op : Nat) : Prop := Completes c s fun t =>
        t.out.fsw[u].wait = s.out.fsw[u].wait ++ [op] ∧ t.get (F.OUT_FSW_STATE u) = st ∧ frame t
      waits (.fswOff u a) 0 ∧ waits (.fswOn u a) 1 ∧ waits (.fswClear u a) 2)

/-- FSW_TURNON_COMPLETE takes a switch from TURNON to ON, FSW_TURNOFF_COMPLETE from TURNOFF to OFF. FSW_LIMIT with a load at the current limit
or above takes it from TURNON or ON to LIMIT, with one below it from LIMIT back to ON; the limit while the thermal level is HOT is half
of what it is otherwise. FSW_RETRY of a cool switch, once the retry interval has elapsed, takes it from RETRYWAIT to TURNON with RCNT
counted, of a hot one not; RCNT_CLEAR clears RCNT of one that has been ON for 1,966,080 ticks. FSW_LATCH_OFF takes a switch that has
limited for 29 ticks, and FSW_TRIP a conducting one, without a retry configured, to LATCHED with LATCH and the cause's flag set and no
command pending. That a RELEASED switch does not retry, and the count of 29 ticks for 1.0 ms ± 10 %, are the model's choices
(notes/assumptions/94.md). (11_field_outputs.md R256 to R258, Table OUT-1, 07_energy_and_heat.md R178) -/
def Obligations.SwitchTransitions : Prop :=
  ∀ (s : State) (k : Fin 4), Memory.wf s = true →
    let st := s.get (F.OUT_FSW_STATE k)
    let goes (c : Instr) (n : Nat) : Prop := Completes c s fun t =>
      t.get (F.OUT_FSW_STATE k) = n ∧ t.get (F.OUT_FSW_CMD k) = s.get (F.OUT_FSW_CMD k) ∧ RegsKept [A.OUT_FSW k] s t ∧
        Keeps [.regs, .flips, .out] s t
    let latches (c : Instr) (f : Fld) : Prop := Completes c s fun t =>
      t.get (F.OUT_FSW_STATE k) = 5 ∧ t.isSet (F.OUT_FSW_LATCH k) = true ∧ t.isSet f = true ∧ t.out.fsw[k].pend = none ∧
        ∀ j : Fin 4, j ≠ k → t.word (A.OUT_FSW j) = s.word (A.OUT_FSW j) ∧ t.out.fsw[j] = s.out.fsw[j]
    (st = 1 → goes (.fswTurnonComplete k) 2) ∧ (st = 3 → s.out.fsw[k].releasing = false → goes (.fswTurnoffComplete k) 0) ∧
      (∀ load : Nat, (s.fswLimit k ≤ load → st = 1 ∨ st = 2 → goes (.fswLimit k load) 4) ∧
        (load < s.fswLimit k → st = 4 → goes (.fswLimit k load) 2) ∧
        Completes (.fswLimit k load) s fun t => t.out.fsw[k].load = load ∧ (st ∉ [1, 2, 4] → t.regs = s.regs)) ∧
      s.fswLimit k = (if s.get F.THERM_STAT_LEVEL = 2 then (300 + (Config.fswLimit k).val) / 2 else 300 + (Config.fswLimit k).val) ∧
      (∀ cool : Bool,
        if st = 6 ∧ s.out.fsw[k].retryLeft = 0 ∧ cool = true ∧ s.out.fsw[k].rel = false then
          goes (.fswRetry k cool) 1 ∧ Completes (.fswRetry k cool) s fun t =>
            t.get (F.OUT_FSW_RCNT k) = min (F.OUT_FSW_RCNT k).max (s.get (F.OUT_FSW_RCNT k) + 1)
        else exec (.fswRetry k cool) s = .next (s.onFsw k fun x => { x with hot := !cool })) ∧
      (st = 2 → 1966080 ≤ s.out.fsw[k].onTicks → goes (.rcntClear k) 2 ∧
        Completes (.rcntClear k) s fun t => t.get (F.OUT_FSW_RCNT k) = 0) ∧
      (st ≠ 2 ∨ s.out.fsw[k].onTicks < 1966080 → exec (.rcntClear k) s = .next s) ∧
      (st ≠ 4 ∨ s.out.fsw[k].limTicks < 29 → exec (.fswLatchOff k) s = .next s) ∧
      (Completes (.fswTrip k false) s fun t => t.out.fsw[k].hot = true) ∧
      (s.get (F.OUT_FSWCFG_RETRY k) = 0 →
        (st = 4 → 29 ≤ s.out.fsw[k].limTicks → latches (.fswLatchOff k) (F.OUT_FSW_OC k)) ∧
        (st = 1 ∨ st = 2 ∨ st = 4 → latches (.fswTrip k true) (F.OUT_FSW_REV k) ∧ latches (.fswTrip k false) (F.OUT_FSW_TSD k)))

/-- VFLD_UVLO opens every switch with CMD kept and sets VUV and event FSWF in each sector that holds a switch's lock. VFLD_UVLO_RELEASE
clears VUV, and with the FSW domain ON and not leaving it every open switch with CMD 1 that is not RELEASED enters TURNON, every other keeps
its state. (11_field_outputs.md R259) -/
def Obligations.FieldSupplyLockout : Prop :=
  ∀ s : State, Memory.wf s = true →
    (Completes .vfldUvlo s fun t =>
      t.isSet F.OUT_STAT_VUV = true ∧
        (∀ k : Fin 4, t.get (F.OUT_FSW_STATE k) = 0 ∧ t.get (F.OUT_FSW_CMD k) = s.get (F.OUT_FSW_CMD k) ∧ t.out.fsw[k].pend = none) ∧
        ∀ n : Sector, (∃ k : Fin 4, s.holds n (10 + k) = true) → t.event n 16 = true) ∧
    (s.settledOn .fsw = true →
      Completes .vfldUvloRelease s fun t =>
        t.isSet F.OUT_STAT_VUV = false ∧ Keeps [.regs, .flips, .out] s t ∧
          ∀ k : Fin 4, t.get (F.OUT_FSW_STATE k) =
            if s.get (F.OUT_FSW_CMD k) = 1 ∧ s.get (F.OUT_FSW_STATE k) = 0 ∧ s.out.fsw[k].rel = false then 1
            else s.get (F.OUT_FSW_STATE k))

/-- From the sector that is granted an analog output and holds its lock, with the AOUT domain ON and not leaving it and no ramp or range
change in progress: AOUT on a driving output puts the code, clamped to 3.8 to 20.5 mA under LIM43 in the current range, in force and goes to
DRIVE; AOCTL with EN on an output in PULLDOWN puts EN, RNG, FACT and LIM43 in force and goes to PARK at the park code; AOCTL with RNG 11b
only sets RNGX. DA clears. With the domain not ON or leaving it, either command waits last in the output's list. A driving output not at
work on its range carries code × FS / 2^18, in the range 0 to 10 V at a VFLD below 12 V at most VFLD − 2 V. (11_field_outputs.md R262, R263,
Tables OUT-2, OUT-3) -/
def Obligations.AnalogOutputCommands : Prop :=
  ∀ (s : State) (g : RunSeg) (u : Fin 2) (a b : Fin 16), Undisturbed s g 1 → Memory.wf s = true →
    s.hasUnit g.sec (8 + u) = true → s.holds g.sec (8 + u) = true → s.out.ao[u].ramp = none →
    let v := s.secs[g.sec].rdW a
    let st := s.get (F.OUT_AOST_STATE u)
    let lim := s.get (F.OUT_AOCTL_LIM43 u) = 1 ∧ s.get (F.OUT_AOCTL_RNG u) = 2
    let frame (t : State) : Prop :=
      t.isSet (F.OUT_AOST_DA u) = false ∧ RegsKept [A.OUT_AOST u, A.OUT_AOCODE u, A.OUT_AOCTL u] s t ∧
        Keeps [.regs, .flips, .eng, .secs, .out] s t
    (∀ vfld : Nat, st ∈ [2, 3, 5, 6] → s.out.ao[u].rel = false →
      let full := (s.word (A.OUT_AOCODE u)).toNat * [5000000, 10000000, 24000000].getD (s.get (F.OUT_AOCTL_RNG u)) 24000000
      s.aoPin u vfld =
        match s.get (F.OUT_AOCTL_RNG u) with
        | 0 => .volts full
        | 1 => .volts (if vfld < 12000000 then min full ((vfld - 2000000) * 2 ^ 18) else full)
        | 2 => .amps full
        | _ => s.aoPin u vfld) ∧
    (s.settledOn .aout = false →
      (Completes (.aout u a b) s fun t => t.out.ao[u].wait = s.out.ao[u].wait ++ [.code v] ∧ frame t) ∧
      Completes (.aoctl u a b) s fun t => t.out.ao[u].wait = s.out.ao[u].wait ++ [.ctl v] ∧ t.isSet (F.OUT_AOCTL_PEND u) = true ∧ frame t) ∧
    (s.settledOn .aout = true →
    (st ∈ [2, 3, 5, 6] →
      Completes (.aout u a b) s fun t => t.get (F.OUT_AOST_STATE u) = 3 ∧
        (t.word (A.OUT_AOCODE u)).toNat = (if lim then max 41506 (min v.toNat 223915) else v.toNat) ∧ frame t) ∧
    (st = 1 → v.getLsbD 17 = true → bits v 16 15 ≠ 3 →
      Completes (.aoctl u a b) s fun t => t.get (F.OUT_AOST_STATE u) = 2 ∧ t.word (A.OUT_AOCODE u) = s.word (A.OUT_AOPARK u) ∧
        t.word (A.OUT_AOCTL u) &&& 0x3F000 = v &&& 0x3F000 ∧ frame t) ∧
    (bits v 16 15 = 3 →
      Completes (.aoctl u a b) s fun t => t.isSet (F.OUT_AOST_RNGX u) = true ∧ t.get (F.OUT_AOST_STATE u) = st ∧
        t.word (A.OUT_AOCODE u) = s.word (A.OUT_AOCODE u) ∧ t.word (A.OUT_AOCTL u) = s.word (A.OUT_AOCTL u) ∧ frame t))

/-- AO_RANGE_COMPLETE ends a range change in DRIVE with the held code, or in ZERO at code 0. AOUT_RAMP_COMPLETE ends a ramp in PULLDOWN,
UNPOWERED or RELEASED as it was to. OUTPUT_PENDING_START starts the pending command of a switch that is open, with its domain ON and not
leaving it. OUTPUT_MONITOR_SAMPLE with both domains off, and at an edge whose CLK_TICK is no multiple of 32, changes nothing; on a second
sample at the backfeed threshold of an open switch it sets BFX. SHARED_OUTPUT_DRIVE lets the shared outputs drive where the device, PRIMARY
or SOLO, has held TWCLM for BRK ticks (8 at least) and is not letting it go; elsewhere it changes nothing. (11_field_outputs.md R260, R263,
R264, R267, R269) -/
def Obligations.OutputEvents : Prop :=
  ∀ (s : State) (k : Fin 4) (u : Fin 2) (high : Vector Bool 4) (ao : Vector AoObs 2), Memory.wf s = true →
    (s.get (F.OUT_AOST_STATE u) = 4 → ∀ v, s.out.ao[u].held = some v →
      Completes (.aoRangeComplete u) s fun t => t.get (F.OUT_AOST_STATE u) = 3 ∧ t.word (A.OUT_AOCODE u) = v ∧ t.out.ao[u].held = none) ∧
    (s.get (F.OUT_AOST_STATE u) = 4 → s.out.ao[u].held = none →
      Completes (.aoRangeComplete u) s fun t => t.get (F.OUT_AOST_STATE u) = 5 ∧ t.word (A.OUT_AOCODE u) = 0) ∧
    (∀ st ∈ [0, 1, 7], s.out.ao[u].ramp = some st → s.tw.dropClaim = false →
      Completes (.aoutRampComplete u) s fun t => t.get (F.OUT_AOST_STATE u) = st ∧ t.out.ao[u].ramp = none ∧
        RegsKept [A.OUT_AOST u] s t) ∧
    (s.settledOn .fsw = true → s.get (F.OUT_FSW_STATE k) = 0 → s.out.fsw[k].pend = some true → s.isSet F.OUT_STAT_VUV = false → s.out.fsw[k].rel = false →
      Completes (.outputPendingStart ⟨k, by omega⟩) s fun t => t.get (F.OUT_FSW_STATE k) = 1 ∧ t.get (F.OUT_FSW_CMD k) = 1 ∧
        t.out.fsw[k].pend = none ∧ RegsKept [A.OUT_FSW k] s t) ∧
    (s.isOn .fsw = false → s.isOn .aout = false → exec (.outputMonitorSample high ao) s = .next s) ∧
    (s.tick % 32 ≠ 0 → exec (.outputMonitorSample high ao) s = .next s) ∧
    (s.tick % 32 = 0 → s.isOn .fsw = true → s.get (F.OUT_FSW_STATE k) = 0 → s.out.fsw[k].high = 1 → high[k] = true →
      Completes (.outputMonitorSample high ao) s fun t => t.isSet (F.OUT_FSW_BFX k) = true) ∧
    (if s.isSet F.TW_STAT_CLMOWN = true ∧ s.tw.dropClaim = false ∧ (s.get F.TW_STAT_ROLE = 0 ∨ s.get F.TW_STAT_ROLE = 3) ∧
        max 8 (s.get F.OUT_SHCTL_BRK) ≤ s.tw.claimAge then
      Completes .sharedOutputDrive s fun t => t.out.drive = true
    else exec .sharedOutputDrive s = .next s)

/-- From boot phase 6 on, FRAME_BOUNDARY completes: the frame starts at this tick with no SYNC edge outstanding, the SYNC mode, SCH_BACT and
SCH_OVGR as written take force, a posted PERIOD that fits every image takes force, the thermal level that stood at the edge before is in
force, the prologue is due, the usage counts of every sector restart and SLOT_USED shows the old one. A running sector whose skip counter is
not 0 is idle and counts down. A STOPPED sector with a pending start and an image runs: its skip counter reloads, its frame is the one that
its events of the edge before select, its metering interval opens, no segment has started, its tier does not exceed the cap of the thermal
level, and, with its interval closed, CAPLEFT not 0 gives tier 0 and counts down. (01_frame_and_machine.md R14, R15, R24, R25, Table FRM-10,
02_schedule_contract.md R46, R50, Table CON-9, 03_iznath_machine.md R76, 07_energy_and_heat.md R178, R179) -/
def Obligations.FrameBoundaryEffects : Prop :=
  ∀ s : State, 6 ≤ s.boot.phase → Memory.wf s = true →
    Completes .frameBoundary s fun t =>
      t.tick = s.tick ∧ t.pending = s.pending ∧ t.boot.phase = (if s.boot.phase = 6 then 7 else s.boot.phase) ∧
      t.sch.frameStart = s.tick ∧ t.sch.started = true ∧ t.sch.syncAt = none ∧ t.sch.mode = s.get F.SCH_SYNC_MODE % 3 ∧
      t.sch.bact = s.word A.SCH_BACT ∧ t.sch.ovgr = s.word A.SCH_OVGR ∧ t.sch.periodPend = none ∧
      (∀ p < 2 ^ 18, s.sch.periodPend = some p → s.periodFits p = true → t.get F.SCH_FRAME_PERIOD = p) ∧
      t.ldg.latched = s.sch.latch.level ∧ t.eng.prologueDue = true ∧
      ∀ n : Sector,
        (t.secs[n].used = 0 ∧ t.secs[n].hostWords = 0 ∧ t.secs[n].laneTicks = 0 ∧
          t.get (F.SCH_SLOT_USED n) = min s.secs[n].used 0x3FFFF) ∧
        (s.running n = true → s.secs[n].rstWait = none → s.secs[n].skipLeft ≠ 0 →
          t.secs[n].inFrame = false ∧ t.secs[n].skipLeft = s.secs[n].skipLeft - 1) ∧
        ∀ im, s.stopped n = true → s.isSet (F.SEC_CTL_SPEND n) = true → s.secs[n].rstWait = none → s.secs[n].image = some im →
          t.running n = true ∧ t.isSet (F.SEC_CTL_SPEND n) = false ∧ t.secs[n].inFrame = true ∧
            t.secs[n].skipLeft = s.get (F.SCH_SKIP_SKIP n) ∧ t.secs[n].frame = s.chooseFrame n im ∧
            t.ldg.iv[n] = { opened := true, void := decide (s.get F.THERM_STAT_LEVEL = 3), fresh := s.ldg.zeroing.isSome } ∧
            t.secs[n].nextSeg = 0 ∧ t.secs[n].tier ≤ thermalCap s.sch.latch.level ∧
            (s.ldg.iv[n].opened = false → s.get (F.SCH_BST_CAPLEFT n) ≠ 0 →
              t.secs[n].tier = 0 ∧ t.get (F.SCH_BST_CAPLEFT n) = s.get (F.SCH_BST_CAPLEFT n) - 1)

/-- At the anchor of a running sector's next segment, its start tick come, no lock being waited for and no copy in progress: with the engine
free and nothing waiting the segment begins at its entry with cycle 0, and counts in LATE if its tick lies past; with the engine taken and
CORE ON it joins the waiting segments with its anchor; in CRIT it is skipped and counted; after an abandoned wake it is skipped and
OSCSKIP counts. Before its tick, and while an earlier segment of the sector waits (the model's choice, notes/assumptions/50.md), only the
stale copies are renewed. LATE_SEGMENT_START begins the waiting segment that R28 puts first and counts it in LATE; for another sector, or
with the engine taken, it changes nothing. (01_frame_and_machine.md R26 to R28, 02_schedule_contract.md Table CON-11,
06_clocks_and_power_domains.md R130, 07_energy_and_heat.md R178) -/
def Obligations.SegmentStarts : Prop :=
  ∀ (s : State) (n : Sector), Memory.wf s = true →
    let x := s.secs[n]
    let started (frame tier idx : Nat) (g : SegRec) : RunSeg := ⟨n, frame, tier, idx, g, 0, 0, g.entry, [], false, false, false, false⟩
    let fLate : Fld := ⟨A.SCH_LATE, 4 * n + 3, 4 * n⟩
    (∀ g, s.segOf n x.frame x.tier x.nextSeg = some g →
      tickBefore s.tick (s.anchorTick g) = true ∨ (∃ w ∈ s.eng.waiting, w.sec = n) → exec (.segmentAnchor n) s = .next s.refreshStale) ∧
    (∀ g, s.segOf n x.frame x.tier x.nextSeg = some g → x.inFrame = true → x.cancelled = false → x.rstWait = none →
      s.running n = true → (∀ k : Fin 16, s.locks[k].waiters = []) → s.eng.copies = [] →
      tickBefore s.tick (s.anchorTick g) = false → (∀ w ∈ s.eng.waiting, w.sec ≠ n) →
      (s.get F.THERM_STAT_LEVEL ≠ 3 → s.pwr.oscDead = false →
        (s.engineFree = true → s.eng.waiting = [] → Completes (.segmentAnchor n) s fun t =>
          t.eng.cur = some (started x.frame x.tier x.nextSeg g) ∧ t.secs[n] = { x.begin with nextSeg := x.nextSeg + 1 } ∧
            t.get fLate = (if tickBefore (s.anchorTick g) s.tick = true then min 15 (s.get fLate + 1) else s.get fLate) ∧
            RegsKept [A.SCH_LATE] s t ∧ Keeps [.regs, .flips, .stale, .secs, .eng] s t) ∧
        (s.engineFree = false → s.isOn .core = true → (s.dom .core).moving = none → Completes (.segmentAnchor n) s fun t =>
          t.eng.cur = s.eng.cur ∧ t.eng.waiting = s.eng.waiting ++ [⟨n, x.frame, x.tier, x.nextSeg, s.anchorTick g⟩] ∧
            t.secs[n] = { x with nextSeg := x.nextSeg + 1 } ∧ Keeps [.stale, .secs, .eng] s t)) ∧
      (s.get F.THERM_STAT_LEVEL = 3 → Completes (.segmentAnchor n) s fun t =>
        t.get F.THERM_SKIP_SKIP = min F.THERM_SKIP_SKIP.max (s.get F.THERM_SKIP_SKIP + 1) ∧
          t.secs[n].qCancelled = x.qCancelled + g.qseg ∧ t.eng = s.eng) ∧
      (s.get F.THERM_STAT_LEVEL ≠ 3 → s.pwr.oscDead = true → Completes (.segmentAnchor n) s fun t =>
        t.get F.CLK_STAT_OSCSKIP = min F.CLK_STAT_OSCSKIP.max (s.get F.CLK_STAT_OSCSKIP + 1) ∧
          t.secs[n].qCancelled = x.qCancelled + g.qseg ∧ t.eng = s.eng)) ∧
    (∀ w, firstWaiting s.eng.waiting = some w →
      (∀ g, w.sec = n → s.engineFree = true → s.segOf n w.frame w.tier w.idx = some g → s.eng.copies = [] →
        Completes (.lateSegmentStart n) s fun t =>
          t.eng.cur = some (started w.frame w.tier w.idx g) ∧ t.eng.waiting = s.eng.waiting.erase w ∧ t.secs[n] = x.begin ∧
            t.get fLate = min 15 (s.get fLate + 1) ∧ RegsKept [A.SCH_LATE] s t) ∧
      (w.sec ≠ n ∨ s.engineFree = false → exec (.lateSegmentStart n) s = .next s))

/-- A SYNC edge outside IN mode does nothing; in IN mode one whose two possible frame starts both lie in the window calls the frame at one
of them, and one for which neither does counts as STRAY. WAKE_ALARM of a running sector with CORE down and no wake running starts a wake of
the kind the clock state calls for; in CRIT it does nothing. OSCFAIL abandons a wake in its oscillator stage. BOUNDARY_PROLOGUE with CORE ON
and no copy in progress clears the prologue, snapshots each lane into LANE_STATUS, takes the held host commands, and has a PRIMARY or
STANDBY queue its heartbeat. (01_frame_and_machine.md R21, R24, Table FRM-10, 06_clocks_and_power_domains.md R130, R137, R152,
09_lanes_and_filters.md R232) -/
def Obligations.FrameClockEvents : Prop :=
  ∀ s : State, Memory.wf s = true →
    let expected := tickAfter s.sch.frameStart (s.get F.SCH_FRAME_PERIOD)
    (s.sch.mode ≠ 2 ∨ s.sch.started = false → exec .syncEdge s = .next s) ∧
    (s.sch.mode = 2 → s.sch.started = true →
      (s.sch.syncAt = none → (∀ k ∈ [2, 3], tickGap (tickAfter s.tick k) expected ≤ 2) → Completes .syncEdge s fun t =>
        (t.sch.syncAt = some (tickAfter s.tick 2) ∨ t.sch.syncAt = some (tickAfter s.tick 3)) ∧ Keeps [.sch, .free] s t) ∧
      (s.sch.syncAt ≠ none ∨ (∀ k ∈ [2, 3], 2 < tickGap (tickAfter s.tick k) expected) → Completes .syncEdge s fun t =>
        t.get F.SCH_SYNC_STRAY = min F.SCH_SYNC_STRAY.max (s.get F.SCH_SYNC_STRAY + 1) ∧ t.sch = s.sch ∧
          RegsKept [A.SCH_SYNC] s t ∧ Keeps [.regs, .flips, .free] s t)) ∧
    (∀ n : Sector, (s.get F.THERM_STAT_LEVEL = 3 → exec (.wakeAlarm n) s = .next s) ∧
      (s.get F.THERM_STAT_LEVEL ≠ 3 → s.secs[n].image ≠ none → s.running n = true → s.isOn .core = false → s.pwr.wake = none →
        Completes (.wakeAlarm n) s fun t =>
          t.pwr.wake = some ⟨0, true, [n]⟩ ∧ t.pwr.oscDead = false ∧ t.get F.PWR_WAKE_STATUS_KIND = s.wakeKind ∧
            t.isSet F.PWR_WAKE_STATUS_BUSY = true ∧ t.get F.PWR_WAKE_STATUS_OSCRDY = bit (decide (s.pwr.xtal = .run)) ∧
            t.get F.PWR_WAKE_STATUS_PLLRDY = bit s.pwr.pll ∧ t.isSet F.PWR_REGCTL_MODE = true ∧ Keeps [.regs, .flips, .pwr, .mem] s t)) ∧
    (∀ w, s.pwr.wake = some w → w.stage = 1 → Completes .oscfail s fun t =>
      t.pwr.wake = none ∧ t.pwr.xtal = .stop ∧ t.isSet F.CLK_STAT_OSCFAIL = true ∧ (w.core = true → t.pwr.oscDead = true)) ∧
    (s.pwr.wake = none → exec .oscfail s = .next s) ∧
    (s.eng.prologueDue = true → s.isOn .core = true → s.eng.copies = [] → Completes .boundaryPrologue s fun t =>
      t.eng = { s.eng with prologueDue := false } ∧ (2 ≤ s.role → t.tw.hbDue = true) ∧
        ∀ i : LaneId, t.lanes[i].hcmd = none ∧
          (s.lanes[i].mode < 16 → t.get (F.LANE_STATUS_MODE i) = s.lanes[i].mode) ∧
          (s.lanes[i].fifo.length ≤ 16 → t.get (F.LANE_STATUS_FCNT i) = s.lanes[i].fifo.length) ∧
          t.get (F.LANE_STATUS_BANK i) = bit s.lanes[i].bankB) ∧
    (s.eng.prologueDue = false ∨ s.isOn .core = false → exec .boundaryPrologue s = .next s)

/-- OVERRUN of a segment past DCYC sets its bit, counts BCNT, raises event 0 in sector 0 and in the sector, logs the first of its kind in
the frame with the detail word of Table CON-10, and, as the frame's first breach, takes the sector's action: CONT none, TOT0 loads
CAPLEFT, SECRST (also under ESC while CAPLEFT is not 0) calls for a reset of the running sector. OVERCUT past DCYC + GRACE ends the
segment, and its drain begins. DRAIN_END with no result in flight ends the drain and puts a latched WAIT in force as the sector's W votes;
a fall of CORE that follows counts its 160 cycles for the sector.
(02_schedule_contract.md R45 to R48, Tables CON-8 to CON-10, 03_iznath_machine.md R70, 04_iznath_instructions.md R89) -/
def Obligations.OverrunBreaches : Prop :=
  ∀ s : State, Memory.wf s = true →
    (∀ g, s.eng.cur = some g →
      let n := g.sec
      let counted (kind : Nat) (t : State) : Prop :=
        t.isSet (F.SCH_BST_OVERRUN n) = true ∧ t.get (F.SCH_BST_BCNT n) = min (F.SCH_BST_BCNT n).max (s.get (F.SCH_BST_BCNT n) + 1) ∧
          t.event 0 0 = true ∧ t.event n 0 = true ∧
          (kind ∉ s.secs[n].logged → s.mem.logq.length < 4 → t.mem.logq = s.mem.logq ++
            [⟨0, n, 0, kind, BitVec.ofNat 18 (kind * 2 ^ 15 + g.tier % 4 * 2 ^ 13 + g.frame % 8 * 2 ^ 10 + g.idx * 64 % 1024), s.tick⟩])
      let act := s.sch.bact.toNat / 4 ^ n.val % 4
      let esc := s.get (F.SCH_BST_CAPLEFT n) ≠ 0 ∧ s.sch.bact.getLsbD (8 + n) = true
      (g.overran = false → g.seg.dcyc ≤ g.cyc → Completes .overrun s fun t => counted 1 t ∧
        (s.secs[n].acted = true ∨ act = 0 ∧ ¬esc → t.eng.cur = some { g with overran := true } ∧ t.secs[n].rstWait = s.secs[n].rstWait) ∧
        (s.secs[n].acted = false → act = 1 → ¬esc → t.eng.cur = some { g with overran := true } ∧
          t.get (F.SCH_BST_CAPLEFT n) = max 1 (s.sch.bact.toNat / 4096 % 64) ∧ t.isSet (F.SCH_BST_CAP n) = true) ∧
        (s.secs[n].acted = false → 2 ≤ act ∨ esc → s.running n = true → s.secs[n].rstWait = none →
          t.secs[n].rstWait = some 1 ∧ t.eng.cur = some { g with overran := true, kill := true })) ∧
      (g.overran = true → g.seg.dcyc + max 16 (s.sch.ovgr.toNat % 4096) ≤ g.cyc → Completes .overcut s fun t =>
        counted 2 t ∧ t.eng.cur = none ∧ t.eng.drain = some n) ∧
      (g.cyc < g.seg.dcyc → exec .overrun s = .next s ∧ exec .overcut s = .next s)) ∧
    (∀ n, s.eng.drain = some n → s.eng.flights = [] → Completes .drainEnd s fun t =>
      let falls := (s.dom .core).moving = none ∧ (t.dom .core).moving ≠ none
      t.eng = { s.eng with drain := none } ∧
        t.secs[n] = { s.secs[n] with latch := none, cycles := s.secs[n].cycles + if falls then 160 else 0 } ∧
        t.pwr.votes[n] = s.secs[n].latch.getD s.pwr.votes[n] ∧ Keeps [.regs, .flips, .eng, .secs, .pwr] s t)

/-- With CORE ON, SYS_KEY armed and sector 0's authority, START, STOP and RESET do what Table SEC-2 gives for the sector's state, disarm the key, and
change no register but SYS_KEY, SEC_CTL and SEC_STAT of the sector. Without the key they are refused: counted, logged, no sector
changes. Without the authority they change no sector. SEC_SUPV with SET raises event 31 in a guest; SEC_DBELL takes its value and raises
event 20. A kick of 0A5Ah zeroes the watchdog count, any other value counts WKBAD. (05_sectors.md R117, R123, Tables SEC-2, SEC-7,
SEC-16, 13_host_port.md R311, 18_register_map.md R414) -/
def Obligations.SectorCommands : Prop :=
  ∀ (s : State) (acc : Accessor) (n : Sector) (v : Word), Memory.wf s = true →
    let st := s.get (F.SEC_CTL_STATE n)
    let does (c : Instr) (P : State → Prop) : Prop := Completes c s fun t =>
      t.armed = false ∧ RegsKept [A.SYS_KEY, A.SEC_CTL n, A.SEC_STAT n] s t ∧ P t
    let same (t : State) : Prop := t.word (A.SEC_CTL n) = s.word (A.SEC_CTL n) ∧ t.word (A.SEC_STAT n) = s.word (A.SEC_STAT n) ∧ t.secs = s.secs
    (acc.sector = 0 → s.armed = true → s.isOn .core = true →
      (st = 0 → s.isSet (F.SEC_CTL_IMG n) = true → does (.start acc n) fun t => t.stopped n = true ∧ t.isSet (F.SEC_CTL_SPEND n) = true) ∧
      (st = 0 → s.isSet (F.SEC_CTL_IMG n) = false →
        does (.start acc n) fun t => t.isSet (F.SEC_STAT_CREJ n) = true ∧ t.word (A.SEC_CTL n) = s.word (A.SEC_CTL n)) ∧
      (st = 1 → does (.start acc n) same) ∧
      (st = 2 → does (.start acc n) fun t => t.isSet (F.SEC_STAT_CREJ n) = true ∧ t.word (A.SEC_CTL n) = s.word (A.SEC_CTL n)) ∧
      (st = 0 → ∀ c ∈ [Instr.stop acc n, Instr.cmdReset acc n], does c fun t => t.stopped n = true ∧ t.isSet (F.SEC_CTL_SPEND n) = false) ∧
      (st = 1 → (s.dom .core).moving = none →
        (s.secs[n].rstWait = none → does (.stop acc n) (fun t => t.running n = true ∧ t.secs[n].rstWait = some 4) ∧
          does (.cmdReset acc n) fun t => t.running n = true ∧ t.secs[n].rstWait = some 3) ∧
        (∀ c, s.secs[n].rstWait = some c → does (.cmdReset acc n) same ∧
          does (.stop acc n) fun t => t.secs[n].rstWait = some (if c ≤ 3 then 4 else c))) ∧
      (st = 2 → does (.cmdReset acc n) same ∧
        (s.get (F.SEC_STAT_CAUSE n) ≤ 3 → does (.stop acc n) fun t => t.get (F.SEC_STAT_CAUSE n) = 4 ∧
          t.get (F.SEC_CTL_STATE n) = (if s.secs[n].rstBusy then 2 else 0) ∧ t.get (F.SEC_STAT_RCNT n) = s.get (F.SEC_STAT_RCNT n)) ∧
        (3 < s.get (F.SEC_STAT_CAUSE n) → does (.stop acc n) same))) ∧
    (acc.sector = 0 → s.armed = false → s.isOn .core = true →
      ∀ c ∈ [Instr.start acc n, Instr.stop acc n, Instr.cmdReset acc n], Completes c s fun t =>
      t.get F.SYS_KEYERR_KDN = min F.SYS_KEYERR_KDN.max (s.get F.SYS_KEYERR_KDN + 1) ∧ RegsKept [A.SYS_KEYERR] s t ∧
        Keeps [.regs, .flips, .mem] s t) ∧
    (acc.sector ≠ 0 → ∀ c ∈ [Instr.start acc n, Instr.stop acc n, Instr.cmdReset acc n, Instr.secSupvWrite acc n v, Instr.secDbellWrite acc n v],
      Completes c s fun t => RegsKept [A.SYS_KEY, A.SEQ_XST acc.sector] s t ∧ Keeps [.regs, .flips, .host] s t) ∧
    (acc.sector = 0 → s.isOn .core = true →
      (n ≠ 0 → v.getLsbD 0 = true → Completes (.secSupvWrite acc n v) s fun t =>
        t.event n 31 = true ∧ RegsKept [A.SYS_KEY, A.SEC_EVH n] s t) ∧
      Completes (.secDbellWrite acc n v) s fun t =>
        t.word (A.SEC_DBELL n) = v ∧ t.event n 20 = true ∧ RegsKept [A.SYS_KEY, A.SEC_DBELL n, A.SEC_EVH n] s t) ∧
    (Completes (.watchdogKick n 0x0A5A) s fun t => t.secs[n] = { s.secs[n] with wdt := 0 } ∧ Keeps [.secs] s t) ∧
    (v ≠ 0x0A5A → Completes (.watchdogKick n v) s fun t =>
      t.get (F.SEC_STAT_WKBAD n) = min (F.SEC_STAT_WKBAD n).max (s.get (F.SEC_STAT_WKBAD n) + 1) ∧ RegsKept [A.SEC_STAT n] s t ∧
        Keeps [.regs, .flips] s t)

/-- SECTOR_RESET of a waiting reset with CORE ON makes the sector RESETTING with its cause and count: it holds no lock and no event, its
granted lanes have empty queues and FIFOs, nothing of it runs or is in flight, its image goes only for IMEM_DED, Hamper and instruction
memory stay. With CORE down it waits. SECTOR_RESET_COMPLETE, no copy being in progress, ends STOPPED for causes 4 and 5; its 64 cycles count for
the sector. A guest's watchdog at LIM × 256 triggers a
reset of cause 2, at its warning point event 30. A virtual line follows its events and mask. An exhausted lane-time share sets LTX and
stops the sector's converting lanes, one in CAL at once. (05_sectors.md R117 to R119, R122 to R124, R128, Table SEC-4) -/
def Obligations.SectorResets : Prop :=
  ∀ (s : State) (n : Sector), Memory.wf s = true →
    (∀ cause ≤ 5, s.secs[n].rstWait = some cause → s.isOn .core = true → Completes (.sectorReset n) s fun t =>
      t.get (F.SEC_CTL_STATE n) = 2 ∧ t.get (F.SEC_STAT_CAUSE n) = cause ∧
        t.get (F.SEC_STAT_RCNT n) = min (F.SEC_STAT_RCNT n).max (s.get (F.SEC_STAT_RCNT n) + 1) ∧
        t.events n = 0 ∧ (∀ k : Fin 16, t.holds n k = false) ∧
        (∀ i : LaneId, s.hasLane n i = true → t.lanes[i].queue = [] ∧ t.lanes[i].fifo = []) ∧
        (∀ g, t.eng.cur = some g → g.sec ≠ n) ∧ (∀ f ∈ t.eng.flights, f.sec ≠ n) ∧ (∀ w ∈ t.eng.waiting, w.sec ≠ n) ∧
        t.secs[n].rstWait = none ∧ t.secs[n].rstBusy = true ∧ t.secs[n].lost = true ∧ t.secs[n].wdt = 0 ∧ t.secs[n].inFrame = false ∧
        t.secs[n].image = (if cause = 5 then none else s.secs[n].image) ∧ t.mem.hamper = s.mem.hamper ∧ t.eng.imem = s.eng.imem) ∧
    (s.secs[n].rstWait = none ∨ s.isOn .core = false → exec (.sectorReset n) s = .next s) ∧
    (s.secs[n].rstBusy = true → s.eng.copies = [] → Completes (.sectorResetComplete n) s fun t =>
      t.secs[n] = { s.secs[n] with rstBusy := false, cycles := s.secs[n].cycles + 64 } ∧
        t.get (F.SEC_CTL_STATE n) = (if s.get (F.SEC_STAT_CAUSE n) ∈ [4, 5] then 0 else s.get (F.SEC_CTL_STATE n)) ∧
        Keeps [.regs, .flips, .secs, .pwr] s t) ∧
    (let lim := s.get (F.SEC_WDT_LIM n)
     let warn := s.get (F.SEC_WDT_WARN n)
     (n ≠ 0 → s.running n = true → lim ≠ 0 → lim * 256 ≤ s.secs[n].wdt → s.isOn .core = true → (s.dom .core).moving = none →
       s.secs[n].rstWait = none → Completes (.watchdogExpiry n) s fun t => t.secs[n].rstWait = some 2 ∧ Keeps [.secs, .eng] s t) ∧
     (n = 0 ∨ s.running n = false ∨ lim = 0 ∨ s.secs[n].wdt < lim * 256 → exec (.watchdogExpiry n) s = .next s) ∧
     (s.running n = true → warn ≠ 0 → warn < lim → s.secs[n].wdt = (lim - warn) * 256 → Completes (.wdgw n) s fun t =>
       t.event n 30 = true ∧ RegsKept [A.SEC_EVH n] s t ∧ Keeps [.regs, .flips] s t) ∧
     (s.running n = false ∨ lim = 0 ∨ warn = 0 → exec (.wdgw n) s = .next s)) ∧
    (∀ k : Fin 4,
      let active := decide (s.word (A.SEC_EVL n) &&& s.word (A.SEC_VML n k) ≠ 0 ∨ s.word (A.SEC_EVH n) &&& s.word (A.SEC_VMH n k) ≠ 0)
      (Completes (.virtualLineChange n k) s fun t => t.isSet (F.SEC_VRT_ACT n k) = active) ∧
        (s.isSet (F.SEC_VRT_NET n k) = false ∨ active = false → Completes (.virtualLineChange n k) s fun t =>
          RegsKept [A.SEC_VRT n k] s t ∧ Keeps [.regs, .flips] s t)) ∧
    (s.get (F.SEC_LTQ_LTQ n) ≠ 0 → 128 * s.get (F.SEC_LTQ_LTQ n) ≤ s.secs[n].laneTicks →
      Completes (.laneTimeShareExhausted n) s fun t => t.isSet (F.SEC_STAT_LTX n) = true ∧ ∀ i : LaneId,
        (s.hasLane n i = true → 2 ≤ s.lanes[i].mode →
          (s.lanes[i].mode ≠ 9 → s.lanes[i].conv ≠ none → t.lanes[i].ltStop = true) ∧
          (s.lanes[i].mode = 9 ∨ s.lanes[i].conv = none ∧ s.lanes[i].due = false → t.lanes[i].mode = 1)) ∧
        (s.hasLane n i = false → t.lanes[i] = s.lanes[i])) ∧
    (s.get (F.SEC_LTQ_LTQ n) = 0 ∨ s.secs[n].laneTicks < 128 * s.get (F.SEC_LTQ_LTQ n) → exec (.laneTimeShareExhausted n) s = .next s)

/-- An image that fails a check changes only SCH_LDST, which shows sector, code and ICTV. One that passes puts its bundles into the sector's
region and no other instruction word, sets IMG and code 0, and its tables are the sector's. A wrong magic gives code 1, a sector that is
not STOPPED some code; in a loaded image every segment ends 4 ticks before the period does, and bundles and window fit the region and
the window. (02_schedule_contract.md R33 to R37, Table CON-6) -/
def Obligations.ImageLoads : Prop :=
  ∀ (s : State) (n : Sector) (l : List Byte), Memory.wf s = true →
    let code := s.checkImage n l l.length
    let im := parseImage l
    let base := s.get (F.SEC_IMEM_IBASE n) * 256
    let bundle (t : State) (k : Nat) : Bundle := storeRead (fun _ => 0) t.eng.imem k
    let shows (t : State) : Prop := t.get F.SCH_LDST_SECT = n ∧ t.get F.SCH_LDST_CODE = code ∧ t.get F.SCH_LDST_ICTV = byteAt l 5
    (code ≠ 0 → Completes (.imageLoad n l) s fun t => shows t ∧ RegsKept [A.SCH_LDST] s t ∧ Keeps [.regs, .flips] s t) ∧
    (code = 0 → Completes (.imageLoad n l) s fun t => shows t ∧ t.isSet (F.SEC_CTL_IMG n) = true ∧ t.secs[n].image = some im ∧
      (∀ k, bundle t k = if base ≤ k ∧ k < base + im.nbun then imageBundle l (k - base) else bundle s k) ∧
      RegsKept [A.SCH_LDST, A.SEC_CTL n] s t ∧ Keeps [.regs, .flips, .eng, .secs, .mem] s t ∧ t.mem.hamper = s.mem.hamper) ∧
    (l.take 4 ≠ [0x59, 0x54, 0x48, 0x42] → code = 1) ∧ (s.stopped n = false → code ≠ 0) ∧
    (code = 0 → im.nbun ≤ s.regionLength n ∧ 0 < im.wgran ∧ im.wgran ≤ s.get (F.SEC_WIN_GLEN n) ∧
      ∀ e ∈ im.entries, ∀ g ∈ e.segs, g.start + (68 + g.dcyc + 24413) / 24414 + 4 ≤ s.get F.SCH_FRAME_PERIOD)

/-- Issued by an undisturbed segment that is granted NET, nsend of 1 to 480 words with the NET domain ON and a transmit buffer free takes a
descriptor with the sector's next SEQ and starts its copy; tsend of 1 to 32 words with TWIN ON, a role of PRIMARY or STANDBY and an
entry free takes a message entry and starts its copy; pD = 1 is in flight. Out of range they set ARG, without the grant NOGR, for want
of a buffer or a partner nothing; then nothing is queued and pD = 0. tsend complements pD where d[3] = 1; nsend takes d[3] as the kind.
(04_iznath_instructions.md R86, R90, R108, R109, 15_field_network.md R350, R357, R360, 14_tangent_twin.md R341) -/
def Obligations.SendCommands : Prop :=
  ∀ (s : State) (g : RunSeg) (d a b : Fin 16), Undisturbed s g 1 → Memory.wf s = true →
    let n := g.sec
    let base := s.secs[n].rdW a
    let nw := (s.secs[n].rdW b).toNat
    let id := s.net.nextId
    let answer (c : Instr) (v : Bool) (P : State → Prop) : Prop := Completes c s fun t =>
      t.eng.flights = [⟨n, 1, .p (predIx d) v, false⟩] ∧ t.secs[n] = { s.secs[n] with cycles := s.secs[n].cycles + 1 } ∧ P t
    let counts (f : Fld) (t : State) : Prop := t.isSet f = true ∧ t.get (F.SEQ_XST_XCNT n) = min 255 (s.get (F.SEQ_XST_XCNT n) + 1) ∧
      t.eng.copies = [] ∧ RegsKept [A.SEQ_XST n] s t ∧ Keeps [.regs, .flips, .eng, .secs] s t
    let nothing (t : State) : Prop := t.eng.copies = [] ∧ Keeps [.eng, .secs] s t
    let granted (k : Nat) : Bool := s.secs[n].grant2.getLsbD k
    (granted 2 = false → answer (.nsend d a b) false (counts (F.SEQ_XST_NOGR n))) ∧
    (granted 2 = true →
      (nw = 0 ∨ 480 < nw → answer (.nsend d a b) false (counts (F.SEQ_XST_ARG n))) ∧
      (1 ≤ nw → nw ≤ 480 →
        (s.isOn .net = false ∨ s.txFree n nw = false → answer (.nsend d a b) false nothing) ∧
        (s.isOn .net = true → s.txFree n nw = true → answer (.nsend d a b) true fun t =>
          t.eng.copies = [⟨n, true, base, nw, id⟩] ∧ t.net.txSeq[n] = min (s.net.txSeq[n] + 1) (2 ^ 32) ∧
            t.net.tx = s.net.tx ++ [⟨id, n, if 8 ≤ d.val then 1 else 0, nw, [], false, false, false, s.net.txSeq[n], s.netDest n,
              blocksFor (yardoLength (s.netDest n) nw), none, 0⟩] ∧ Keeps [.eng, .secs, .net] s t))) ∧
    (let plain := decide (8 ≤ d.val)
     (granted 3 = false → answer (.tsend d a b) plain (counts (F.SEQ_XST_NOGR n))) ∧
     (granted 3 = true →
       (nw = 0 ∨ 32 < nw → answer (.tsend d a b) plain (counts (F.SEQ_XST_ARG n))) ∧
       (1 ≤ nw → nw ≤ 32 →
         let used := s.tw.msgs.length + (s.tw.outst.filter fun f => decide (f.type = 2)).length
         (s.isOn .twin = false ∨ s.role < 2 ∨ 8 ≤ used → answer (.tsend d a b) plain nothing) ∧
         (s.isOn .twin = true → 2 ≤ s.role → used < 8 → answer (.tsend d a b) (!plain) fun t =>
           t.eng.copies = [⟨n, false, base, nw, id⟩] ∧ t.tw.msgs = s.tw.msgs ++ [⟨id, n, [], false⟩] ∧
             Keeps [.eng, .secs, .net, .tw] s t))))

/-- With nothing in flight and room left in a slot that admits the service: HOST serves the last word of an RDMEM and the answer is DONE;
TWIN takes the heartbeat that is due whole; NETRX copies a whole fresh command into the ring, whose banks are ON, counts it and sets event
18; TELEM takes the request; FLASH copies the next granule of a READ into the window; SCRUB rewrites the queued words that can still be
corrected. Each books its cycles for its sector. Without room, TELEM and SCRUB do nothing. (02_schedule_contract.md R39 to R42, Table CON-7,
12_hamper_thermos_flash.md R275, R277, R289, 13_host_port.md R303, 14_tangent_twin.md R333, R336, 15_field_network.md R358, R365) -/
def Obligations.Bookings : Prop :=
  ∀ (s : State) (g : RunSeg), Memory.wf s = true → s.eng.cur = some g → s.eng.flights = [] → s.eng.copies = [] →
    let books (c : Instr) (n : Sector) (len : Nat) (P : State → Prop) : Prop := Completes c s fun t =>
      t.secs[n].used = s.secs[n].used + len ∧ t.eng.cur = some { g with slotPos := g.slotPos + len } ∧ P t
    (∀ p, s.hostPending = true → s.host.txn.op = 3 → s.host.txn.cnt = s.host.txn.served + 1 →
      s.inWindow s.host.txn.sect (s.host.txn.addr.toNat + s.host.txn.served) = some p → s.hamperUpset p = .none →
      books .hostBooking s.host.txn.sect 10 fun t => t.host.state = 2 ∧ t.host.txn.answer = s.host.txn.answer ++ [s.hamperWord p] ∧
        t.host.txn.served = s.host.txn.cnt ∧ t.secs[s.host.txn.sect].hostWords = s.secs[s.host.txn.sect].hostWords + 1 ∧
        Keeps [.eng, .secs, .host] s t) ∧
    (22 ≤ s.twinRoom → s.tw.hbDue = true → s.tw.hbWords = [] → s.linkUp = true → 2 ≤ s.role → s.tw.pass = none → s.tw.buf = [] →
      books .twinBooking 0 22 fun t => t.tw.hbDue = false ∧ t.tw.ready = s.tw.ready ++ [⟨1, 0, 0, s.heartbeat⟩] ∧
        Keeps [.eng, .secs, .tw] s t) ∧
    (∀ c, s.net.rx = [c] → c.done = 0 → netrxCycles (3 * (4 + c.words.length)) ≤ s.slotRoom 2 → s.fresh? c.sec c.seq = true →
      s.get (F.NET_RX_CNT c.sec) < 4 → s.banksOn (s.physOf c.sec (s.rxEntry c.sec)) 64 = true →
      books .netrxBooking c.sec (netrxCycles (3 * (4 + c.words.length))) fun t =>
        t.net.rx = [] ∧ t.get (F.NET_RX_CNT c.sec) = s.get (F.NET_RX_CNT c.sec) + 1 ∧ t.event c.sec 18 = true ∧
          t.net.rxHigh[c.sec] = max s.net.rxHigh[c.sec] c.seq ∧
          ∀ k < 4 + c.words.length, ∀ p,
            s.inWindow c.sec (s.rxEntry c.sec + k) = some p →
              t.hamperWord p = c.entry.getD k 0) ∧
    (64 ≤ s.slotRoom 3 → s.net.telReq = true → books .telemBooking 0 64 fun t => t.net.telReq = false ∧
      (s.isOn .net = false → t.get F.NET_TELEM_TDROP = min F.NET_TELEM_TDROP.max (s.get F.NET_TELEM_TDROP + 1))) ∧
    (s.slotRoom 3 < 64 ∨ s.net.telReq = false → exec .telemBooking s = .next s) ∧
    (∀ o, s.mem.factive = some o → o.op = 1 → o.busy = false → o.finished = false → 48 ≤ s.flashRoom → s.isOn .flash = true →
      o.hofs + 8 * o.step + 8 ≤ 2 ^ 16 →
      books .flashBooking o.sec 48 fun t =>
        t.mem.factive = some { o with step := o.step + 1, finished := decide (o.cnt ≤ o.step + 1) } ∧
          ∀ k < 8, ∀ p, s.inWindow o.sec (o.hofs + 8 * o.step + k) = some p →
            (t.hamperWord p).toNat = (s.flashByte (16 * (o.gran + o.step) + 2 * k)).toNat * 256 +
              (s.flashByte (16 * (o.gran + o.step) + 2 * k + 1)).toNat) ∧
    (40 ≤ s.slotRoom 6 → s.scrubPending = true → s.isSet F.MEM_SCRUB_EN = false →
      books (.scrubBooking []) 0 40 fun t => t.mem.writeBack = [] ∧ t.eng.imemFix = [] ∧ t.mem.hamper = s.mem.hamper ∧
        (∀ p, t.hamperUpset p = if p ∈ s.mem.writeBack ∧ s.hamperUpset p = .single then .none else s.hamperUpset p) ∧
        Keeps [.eng, .secs, .mem] s t) ∧
    (s.slotRoom 6 < 40 ∨ s.scrubPending = false → exec (.scrubBooking []) s = .next s)

/-- A settled domain whose target differs starts the transition (CORE only downwards), a completed one leaves the domain in its new state:
an OFF bank reads 0 and the others keep their words, OFF instruction memory holds 0, CORE OFF loses every sector's machine state, a lane OFF
is in mode OFF. A pending request starts once nothing moves, or is dropped when it is where the domain stands. A lane in READY long enough
goes to auto-retention. Each ready stage of a wake sets its bit and starts the next; the last puts CORE ON; a lane's PLL start takes the
regulator to FULL only where it is required. No other domain changes. (06_clocks_and_power_domains.md R141, R145, R147, R149 to R153, R451,
Tables PWR-2, PWR-12) -/
def Obligations.DomainTransitions : Prop :=
  ∀ (s : State) (d : Dom), Memory.wf s = true →
    let x := s.dom d
    let tgt := s.domTarget d
    let goes (c : Instr) (y : DomSt) : Prop := Completes c s fun t => t.dom d = y ∧ ∀ e ≠ d, t.dom e = s.dom e
    (x.moving = none → (if d = .core then tgt.rank < x.state.rank else tgt ≠ x.state) →
      goes (.domainTransitionStart d) { state := x.state, moving := some tgt, pend := none }) ∧
    (x.moving ≠ none ∨ tgt = x.state ∨ d = .core ∧ x.state.rank ≤ tgt.rank → exec (.domainTransitionStart d) s = .next s) ∧
    (∀ y, x.moving = some y → Completes (.domainTransitionComplete d) s fun t =>
      (t.dom d).state = y ∧ (t.dom d).moving = none ∧ (∀ e ≠ d, t.dom e = s.dom e) ∧
        (y = .off → (d = .core → ∀ n : Sector, t.secs[n].lost = true) ∧ (d = .imem → t.eng.imem = []) ∧
          (∀ k, d = .hb k → ∀ p, t.hamperWord p = if p / 8192 = k.val then 0 else s.hamperWord p) ∧
          (∀ i, d = .lane i → t.lanes[i].mode = 0 ∧ t.lanes[i].stream = [])) ∧
        (y = .on → d = .net → t.get F.NET_STAT_LINK = if s.isSet F.NET_CTL_ANEN then 1 else 2)) ∧
    (x.moving = none → exec (.domainTransitionComplete d) s = .next s) ∧
    (∀ y, x.pend = some y →
      (x.moving = none → (if d = .core then y.rank < x.state.rank else y ≠ x.state) →
        goes (.pendingTransitionStart d) { state := x.state, moving := some y, pend := none }) ∧
      (x.moving = none → y = x.state → goes (.pendingTransitionStart d) { x with pend := none })) ∧
    (x.moving ≠ none ∨ x.pend = none → exec (.pendingTransitionStart d) s = .next s) ∧
    (∀ i : LaneId, let k := s.get F.PWR_LRET_TICKS
      (k ≠ 0 → s.lanes[i].mode = 1 → s.resolved (.lane i) = .on → k ≤ s.pwr.readyTicks[i] → Completes (.laneAutoRetention i) s fun t =>
        t.pwr = { s.pwr with autoRet := s.pwr.autoRet.set i true } ∧ Keeps [.pwr] s t) ∧
      (k = 0 ∨ s.lanes[i].mode ≠ 1 ∨ s.pwr.readyTicks[i] < k → exec (.laneAutoRetention i) s = .next s)) ∧
    (s.pwr.pll = false → s.pwr.wake = none → Completes .lanePllStart s fun t => t.pwr.wake = some ⟨0, false, []⟩ ∧
      t.get F.PWR_WAKE_STATUS_OSCRDY = bit (decide (s.pwr.xtal = .run)) ∧ t.isSet F.PWR_WAKE_STATUS_PLLRDY = false ∧
      RegsKept [A.PWR_WAKE_STATUS] s t ∧ Keeps [.regs, .flips, .pwr] s t) ∧
    (s.pwr.pll = true ∨ s.pwr.wake ≠ none → exec .lanePllStart s = .next s) ∧
    (∀ w, s.pwr.wake = some w → (s.dom .core).moving = none →
      let stage (k : Nat) (f : Fld) (P : State → Prop) : Prop := w.stage = k → Completes .wakeStageReady s fun t =>
        t.pwr.wake = some { w with stage := k + 1 } ∧ t.isSet f = true ∧ P t
      (w.core = true → stage 0 F.PWR_WAKE_STATUS_REGRDY fun t => t.isSet F.PWR_REGCTL_MODE = true) ∧
        (w.core = false → w.stage = 0 → Completes .wakeStageReady s fun t => t.pwr.wake = some { w with stage := 1 } ∧
          if s.pllNeedsFull = true then t.isSet F.PWR_REGCTL_MODE = true ∧ t.isSet F.PWR_WAKE_STATUS_REGRDY = true ∧
            RegsKept [A.PWR_REGCTL, A.PWR_WAKE_STATUS] s t
          else t.regs = s.regs) ∧
        stage 1 F.PWR_WAKE_STATUS_OSCRDY (fun t => t.pwr.xtal = .run) ∧
        (w.core = true → stage 2 F.PWR_WAKE_STATUS_PLLRDY fun t => t.pwr.pll = true ∧ t.pwr.xtal = .run ∧ t.isSet F.CLK_STAT_PLLON = true) ∧
        (w.core = false → w.stage = 2 → Completes .wakeStageReady s fun t => t.pwr.wake = none ∧ t.pwr.pll = true ∧ t.dom .core = s.dom .core) ∧
        stage 3 F.PWR_WAKE_STATUS_MEMRDY (fun t => t.dom .core = s.dom .core ∧
          (6 ≤ s.boot.phase → t.pwr.awake = w.secs ∧ (s.resolved .imem ≠ .off → t.isOn .imem = true) ∧
            ∀ (k : Fin 8) (n : Sector), n ∈ w.secs → s.windowTouches n k = true → s.resolved (.hb k) ≠ .off → t.isOn (.hb k) = true)) ∧
        (w.stage = 4 → Completes .wakeStageReady s fun t => t.pwr.wake = none ∧ t.dom .core = { state := .on } ∧
          t.isSet F.PWR_WAKE_STATUS_LOGRDY = true ∧ t.isSet F.PWR_WAKE_STATUS_BUSY = false ∧ ∀ e ≠ Dom.core, t.dom e = s.dom e)) ∧
    (s.pwr.wake = none ∨ (s.dom .core).moving ≠ none → exec .wakeStageReady s = .next s)

/-- HCS, TACT (TWIN in RET) and NED (NET in RET) with their enable bit set hold their domain for HOLD × 32 ticks, the count standing one
higher as the tick of the raise is not a whole one, and, with no wake running and none recorded at this tick, make a record of their own;
without the bit, or out of RET, they do nothing. XKEEP acts at once while the PLL is stopped and is only stored while it runs. The slow
crystal's loss and return change SCSRC, and a loss is flagged. A pending MDIV applies in OFF, READY or RET. The regulator goes LOW unless
FULL is forced or, from boot phase B2 on, asked for. The oldest post commits when it is readable, and not before. Copies of triplicated
fields that disagree are rewritten to the majority and counted. (06_clocks_and_power_domains.md R129, R131, R135, R138, R140, R154 to R156,
Table PWR-7, 13_host_port.md R312) -/
def Obligations.RaisesAndClocks : Prop :=
  ∀ s : State, Memory.wf s = true →
    (let raises (c : Instr) (k : Fin 3) (code b : Nat) : Prop :=
       (s.get F.PWR_WAKEEN_EN / 2 ^ b % 2 = 0 → exec c s = .next s) ∧
       (s.get F.PWR_WAKEEN_EN / 2 ^ b % 2 = 1 → Completes c s fun t =>
         t.pwr.hold[k] = 32 * max 1 (s.get F.PWR_WAKEEN_HOLD) + 1 ∧ Keeps [.regs, .flips, .pwr, .mem] s t ∧
           (s.pwr.wake = none → s.pwr.wakeRecTick ≠ some s.tick → t.get F.PWR_WAKESRC_CODE = code ∧
             t.get F.PWR_WAKESRC_SET = 2 ^ (code - 1) ∧ t.get F.PWR_WAKETL_TICK = s.tick % 2 ^ 18 ∧ t.get F.PWR_WAKE_STATUS_KIND = 4))
     raises .hcs 0 4 2 ∧ ((s.dom .twin).state = .ret → raises .tact 1 5 3) ∧ ((s.dom .net).state = .ret → raises .ned 2 6 4) ∧
       ((s.dom .twin).state ≠ .ret → exec .tact s = .next s) ∧ ((s.dom .net).state ≠ .ret → exec .ned s = .next s) ∧
       ∀ k : Fin 3, (s.pwr.hold[k] = 1 → Completes (.wakeRaiseHoldExpiry k) s fun t => t.pwr.hold[k] = 0 ∧ Keeps [.regs, .flips, .pwr] s t) ∧
         (s.pwr.hold[k] ≠ 1 → exec (.wakeRaiseHoldExpiry k) s = .next s)) ∧
    (∀ v : Bool, Completes (.xkeepWrite v) s fun t => t.isSet F.CLK_CTL_XKEEP = v ∧ RegsKept [A.CLK_CTL] s t ∧ Keeps [.regs, .flips, .pwr] s t ∧
      t.pwr = { s.pwr with xtal :=
        if s.pwr.pll then s.pwr.xtal else if v then (if s.pwr.xtal = .stop then .starting else s.pwr.xtal)
        else if s.pwr.xtal = .standby ∨ s.pwr.xtal = .starting then .stop else s.pwr.xtal }) ∧
    (s.pwr.xtal = .starting → exec .crystalStandbyReached s = .next { s with pwr := { s.pwr with xtal := .standby } }) ∧
    (s.pwr.xtal ≠ .starting → exec .crystalStandbyReached s = .next s) ∧
    (s.pwr.slowXtal = true → Completes .scfail s fun t => t.pwr = { s.pwr with slowXtal := false, slowLost := true, lpoTicks := 0 } ∧
      t.isSet F.CLK_STAT_SCSRC = false ∧ t.isSet F.CLK_STAT_SCFAIL = true ∧ RegsKept [A.CLK_STAT] s t ∧
      (s.mem.logq.length < 4 → t.mem.logq = s.mem.logq ++ [⟨7, 0, 1, 2, 0, s.tick⟩])) ∧
    (s.pwr.slowXtal = false → exec .scfail s = .next s) ∧
    (s.pwr.slowXtal = false → s.get F.CLK_CTL_SCSEL ≠ 1 → Completes .slowClockToCrystal s fun t =>
      t.pwr = { s.pwr with slowXtal := true, slowLost := false } ∧ t.isSet F.CLK_STAT_SCSRC = true ∧ RegsKept [A.CLK_STAT] s t ∧
      (s.pwr.slowLost = true → s.mem.logq.length < 4 →
        t.mem.logq = s.mem.logq ++ [⟨7, 0, 1, 3, BitVec.ofNat 18 (min s.pwr.lpoTicks 0x3FFFF), s.tick⟩])) ∧
    (s.pwr.slowXtal = true ∨ s.get F.CLK_CTL_SCSEL = 1 → exec .slowClockToCrystal s = .next s) ∧
    (∀ i : LaneId, let pend := s.word A.CLK_MDIV &&& BitVec.ofNat 18 (2 ^ (12 + i.val)) ≠ 0
      (pend → s.lanes[i].mode ≤ 1 ∨ (s.dom (.lane i)).state = .ret → Completes (.mdivApply i) s fun t =>
        t.pwr = { s.pwr with mdiv := s.pwr.mdiv.set i ((s.word A.CLK_MDIV).toNat / 8 ^ i.val % 8) } ∧
          t.word A.CLK_MDIV = s.word A.CLK_MDIV &&& ~~~ BitVec.ofNat 18 (2 ^ (12 + i.val)) ∧ RegsKept [A.CLK_MDIV] s t) ∧
      (¬pend ∨ 1 < s.lanes[i].mode ∧ (s.dom (.lane i)).state ≠ .ret → exec (.mdivApply i) s = .next s)) ∧
    (s.fullForced = true ∨ 2 ≤ s.boot.phase ∧ s.get F.PWR_REGCTL_IDLE = 1 → exec .regulatorToLow s = .next s) ∧
    (s.fullForced = false → s.boot.phase < 2 ∨ s.get F.PWR_REGCTL_IDLE = 2 ∨ s.get F.PWR_REGCTL_IDLE ≠ 1 ∧ s.loadEst ≤ 2400 → Completes .regulatorToLow s fun t =>
      t.isSet F.PWR_REGCTL_MODE = false ∧ t.isSet F.PWR_WAKE_STATUS_REGRDY = false ∧
        RegsKept [A.PWR_REGCTL, A.PWR_WAKE_STATUS] s t ∧ Keeps [.regs, .flips] s t) ∧
    (s.pwr.posts = [] → exec .postCommit s = .next s) ∧
    (∀ p rest, s.pwr.posts = p :: rest →
      (p.age < 3 → exec .postCommit s = .next s) ∧
      (3 ≤ p.age → (∃ t, exec .postCommit s = .next t ∧ t.pwr.posts = rest) ∧
        (p.addr = A.SCH_FRAME → Completes .postCommit s fun t => t.sch.periodPend = some p.val.toNat ∧ t.regs = s.regs) ∧
        (p.addr = A.LDG_STOREH → Completes .postCommit s fun t => t.ldg.staged = some p.val ∧ t.regs = s.regs) ∧
        (p.addr = A.PWR_LRET → Completes .postCommit s fun t =>
          t.word A.PWR_LRET = (s.word A.PWR_LRET &&& ~~~(0xFF &&& p.mask)) ||| (p.val &&& (0xFF &&& p.mask)) ∧
            storeRead regPor t.stale A.PWR_LRET = t.word A.PWR_LRET ∧ RegsKept [A.PWR_LRET] s t))) ∧
    (Completes (.tmrCorrection []) s fun t => t.flips = [] ∧ RegsKept [A.SYS_TMRFIX] s t ∧ Keeps [.regs, .flips] s t ∧
      t.get F.SYS_TMRFIX_COUNT =
        min (s.get F.SYS_TMRFIX_COUNT + (s.flips.map fun f => disagreeing f.addr (f.a ||| f.b ||| f.c)).sum) 0xFFFF) ∧
    ∀ (a : Nat) (x : Word), Completes (.tmrCorrection [(a, x, 0, 0)]) s fun t => RegsKept [A.SYS_TMRFIX] s t

/-- LEDGER_TICK_CLOSE adds E_tick = Q_tick × VSYS, with Q_tick from the shunt voltage, held to ±64 mV, less the offset (none with ZEN = 0)
over RSH (held to 100 to 1000 mΩ), to ETOT, takes a non-negative one off STORE down to 0 with its fraction, except where a post replaced
STORE at this edge, and gives each open interval its share by weight; a voltage beyond ±64 mV sets OVR and voids the open intervals. A
zeroing tick waits with its weights for the close of the next. LEDGER_ZERO needs ZEN and a zeroing tick in progress. What the ledger
leaves is latched for the next boundary.
STORE_POST replaces STORE with the staged high half, clears the fraction, the age and STALE. STALE needs the age to have reached a
non-zero STMAX. (07_energy_and_heat.md R162, R164, R165, R171 to R173, Tables NRG-4, NRG-5) -/
def Obligations.LedgerTicks : Prop :=
  ∀ (s : State) (shunt : Int) (vsys vexc : Nat) (v : Word), Memory.wf s = true →
    let etot (s : State) : Nat := (s.get F.LDG_ETOTH_ETOT * 2 ^ 18 + s.get F.LDG_ETOTL_ETOT) * 2 ^ 24 + s.ldg.etotFrac
    let store (s : State) : Nat := (s.get F.LDG_STOREH_STORE * 2 ^ 18 + s.get F.LDG_STOREL_STORE) * (1000 * 2 ^ 24) + s.ldg.storeFrac
    let nv := max (-64000000) (min shunt 64000000) - (if s.isSet F.LDG_CFG_ZEN = true then s.ldg.offset else 0)
    let rsh : Nat := min (max (s.get F.LDG_CFG_RSH) 100) 1000
    let q : Int := (nv * 15625 * 2 ^ 15).fdiv rsh
    let e : Int := (q * vsys).fdiv 1000000000
    let w := s.weights vexc
    let total : Nat := w[0] + w[1] + w[2] + w[3]
    let restarts (t : State) : Prop := t.ldg.closedAt = some s.tick ∧ t.ldg.vsysLow = decide (vsys < 3000) ∧
      t.sch.latch.level = t.get F.THERM_STAT_LEVEL ∧ t.sch.latch.storeH = t.word A.LDG_STOREH ∧ t.sch.latch.storeL = t.word A.LDG_STOREL ∧
      ∀ n : Sector, t.secs[n].cycles = 0
    (s.ldg.zeroNow = true → Completes (.ledgerTickClose shunt vsys vexc) s fun t => restarts t ∧ t.ldg.zeroNow = false ∧
      t.ldg.zeroing = some ⟨vsys, w, decide (s.get F.THERM_STAT_LEVEL = 3), decide (s.ldg.postedAt = some s.tick)⟩ ∧
      t.ldg.iv = s.ldg.iv ∧ t.regs = s.regs) ∧
    (s.ldg.zeroNow = false → Completes (.ledgerTickClose shunt vsys vexc) s fun t =>
      restarts t ∧ t.ldg.lastQ = q ∧ t.ldg.zeroing = none ∧ t.ldg.zeroNow = false) ∧
    (s.ldg.zeroNow = false → s.ldg.zeroing = none →
      (-64000000 ≤ shunt → shunt ≤ 64000000 → Completes (.ledgerTickClose shunt vsys vexc) s fun t =>
        (0 ≤ etot s + e → etot t = ((etot s : Int) + e).toNat % 2 ^ 60) ∧
        (0 ≤ e → s.ldg.storeFrac < 1000 * 2 ^ 24 → s.ldg.postedAt ≠ some s.tick → store t = ((store s : Int) - e).toNat) ∧
        (s.ldg.postedAt = some s.tick → store t = store s) ∧
        (∀ n : Sector, (s.ldg.iv[n].opened = false → t.ldg.iv[n] = s.ldg.iv[n]) ∧
          (s.ldg.iv[n].opened = true → t.ldg.iv[n].q = s.ldg.iv[n].q + (q * w[n]).fdiv total)) ∧
        RegsKept [A.LDG_ETOTH, A.LDG_ETOTL, A.LDG_STOREH, A.LDG_STOREL] s t ∧
        Keeps [.regs, .flips, .stale, .sch, .ldg, .secs, .free] s t) ∧
      (shunt < -64000000 ∨ 64000000 < shunt → Completes (.ledgerTickClose shunt vsys vexc) s fun t =>
        t.isSet F.LDG_STAT_OVR = true ∧ ∀ n : Sector, s.ldg.iv[n].opened = true → t.ldg.iv[n].void = true)) ∧
    (s.isSet F.LDG_CFG_ZEN = true → s.ldg.zeroNow = true →
      exec (.ledgerZero shunt) s = .next { s with ldg := { s.ldg with offset := shunt } }) ∧
    (s.isSet F.LDG_CFG_ZEN = false ∨ s.ldg.zeroNow = false → exec (.ledgerZero shunt) s = .next s) ∧
    (Completes (.storePost v) s fun t =>
      t.word A.LDG_STOREH = s.ldg.staged.getD (s.word A.LDG_STOREH) ∧ t.word A.LDG_STOREL = v ∧ t.ldg.staged = none ∧
        t.ldg.storeFrac = 0 ∧ t.ldg.postAge = 0 ∧ t.isSet F.LDG_STAT_STALE = false ∧
        RegsKept [A.LDG_STOREH, A.LDG_STOREL, A.LDG_STAT] s t ∧ Keeps [.regs, .flips, .stale, .sch, .ldg] s t) ∧
    (s.get F.LDG_TMAX_STMAX ≠ 0 → s.get F.LDG_TMAX_STMAX * 2 ^ 21 ≤ s.ldg.postAge → Completes .stale s fun t =>
      t.isSet F.LDG_STAT_STALE = true ∧ RegsKept [A.LDG_STAT] s t ∧ Keeps [.regs, .flips] s t) ∧
    (s.get F.LDG_TMAX_STMAX = 0 ∨ s.ldg.postAge < s.get F.LDG_TMAX_STMAX * 2 ^ 21 → exec .stale s = .next s)

/-- At a CLK_TICK that is a multiple of 32 a sample stores TEMP; at any other nothing is sampled. One whose entry level U is CRIT changes a
lower level to CRIT at once, ends the running segment and counts CRITCNT. Otherwise a sample with U above the level counts toward U, one
with the leave level D below it toward D; the eighth of a run changes the level and clears DWELL; one the other way starts a new run; one
that counts in neither direction clears it, and each run broken before its eighth counts CHAT. (07_energy_and_heat.md R175 to R178, Table
NRG-2) -/
def Obligations.ThermalSamples : Prop :=
  ∀ (s : State) (c : BitVec 12), Memory.wf s = true →
    let x := c.toInt
    let up := if 1040 ≤ x then 3 else if 960 ≤ x then 2 else if 880 ≤ x then 1 else 0
    let down := if 1008 ≤ x then 3 else if 928 ≤ x then 2 else if 848 ≤ x then 1 else 0
    let lv := s.get F.THERM_STAT_LEVEL
    let dwell := s.get F.THERM_CHAT_DWELL
    (s.tick % 32 ≠ 0 → exec (.thermalSample c) s = .next s) ∧ (s.tick % 32 = 0 →
    let gives (level dw : Nat) (chat : Bool) (run : Option Bool) : Prop := Completes (.thermalSample c) s fun t =>
      t.get F.THERM_STAT_TEMP = c.toNat ∧ t.get F.THERM_STAT_LEVEL = level ∧ t.get F.THERM_CHAT_DWELL = dw ∧ t.ldg.run = run ∧
        t.get F.THERM_CHAT_CHAT = min 255 (s.get F.THERM_CHAT_CHAT + bit chat) ∧
        (level ≠ 3 ∨ lv = 3 → RegsKept [A.THERM_STAT, A.THERM_CHAT, A.CAL_STAT] s t ∧ Keeps [.regs, .flips, .stale, .sch, .ldg] s t)
    let counts (dir : Bool) (cand : Nat) : Prop :=
      (s.ldg.run ≠ some (!dir) → (dwell < 7 → gives lv (dwell + 1) false (some dir)) ∧ (dwell = 7 → gives cand 0 false none)) ∧
        (s.ldg.run = some (!dir) → gives lv 1 (decide (dwell ≠ 0)) (some dir))
    (up = 3 → lv < 3 → Completes (.thermalSample c) s fun t => t.get F.THERM_STAT_TEMP = c.toNat ∧ t.get F.THERM_STAT_LEVEL = 3 ∧
      t.get F.THERM_CHAT_DWELL = 0 ∧ t.get F.THERM_CHAT_CRITCNT = min 15 (s.get F.THERM_CHAT_CRITCNT + 1) ∧ t.eng.cur = none ∧
      t.eng.waiting = []) ∧
    (up ≠ 3 → lv < up → counts true up) ∧ (up ≤ lv → down < lv → counts false down) ∧
    (up ≤ lv → lv ≤ down → gives lv 0 (decide (dwell ≠ 0)) none))

/-- With CORE ON, word 3 of a descriptor, written by the sector granted it, word 4 of a filter profile and word 3 of a threshold set, written
with sector 0's authority and the key, commit together with the words staged before them; a descriptor's commit makes LASTV old, a
threshold set's returns the entries that name it (a converting entry by its latched descriptor) to NORMAL. Without the grant a descriptor
stays. CRV_PD accesses move the accessor's pointer by one and write only where Table CAL-9 permits; a program's write of a user table with
the grant of unit 15 but not its lock counts in NHn; MEM_THD reads and writes by sector 0 move MEM_THP by one, and a write reaches only the user area
0C0h to 0FFh. (08_front_end.md R200, 09_lanes_and_filters.md R216, R229, 10_curves_and_calibration.md R239, R254, Table CAL-9,
12_hamper_thermos_flash.md R294, Table MEM-1) -/
def Obligations.StagedCommits : Prop :=
  ∀ (s : State) (acc : Accessor) (v : Word), Memory.wf s = true → s.isOn .core = true →
    let n := acc.sector
    let commits (c : Instr) (a k : Nat) (last : Word) (but : List Nat) (P : State → Prop) : Prop := Completes c s fun t =>
      (∀ j < k, t.word (a + j) = (s.stagedWord (a + j)).getD (s.word (a + j)) ∧ t.stagedWord (a + j) = none) ∧ t.word (a + k) = last ∧
        (∀ b, ¬(a ≤ b ∧ b ≤ a + k) → b ∉ but → t.word b = s.word b) ∧ P t
    (∀ d : Fin 64,
      (s.hasDesc n d = true → commits (.descriptorCommit acc d v) (0x400 + 4 * d) 3 (v &&& 0x3FFC0) [A.SYS_KEY] fun t =>
        storeRead (fun _ => none) t.cal.lastv d = none ∧ Keeps [.regs, .flips, .cal, .afe, .host] s t) ∧
      (s.hasDesc n d = false → Completes (.descriptorCommit acc d v) s fun t =>
        RegsKept [A.SYS_KEY, A.SEQ_XST n] s t ∧ Keeps [.regs, .flips, .host] s t)) ∧
    (n = 0 → s.armed = true → ∀ k : Fin 8,
      (commits (.profileCommit acc k v) (0x500 + 8 * k) 4 v [A.SYS_KEY] fun t => t.armed = false ∧ Keeps [.regs, .flips, .afe, .host] s t) ∧
      (commits (.thresholdSetCommit acc k v) (0x540 + 8 * k) 3 (v &&& 0x3C0FF) [A.SYS_KEY] fun t => t.armed = false ∧
        Keeps [.regs, .flips, .afe, .host, .lanes] s t ∧
        ∀ (i : LaneId) (e : Fin 16), s.entrySet i e = k.val →
          t.lanes[i].thr[e] = { retake := s.lanes[i].thr[e].retake })) ∧
    (∀ (i : LaneId) (e : Nat), s.entrySet i e =
      match s.lanes[i].conv with
      | some c => if c.entry = e ∧ c.cal = false then c.desc.thrset else (s.descWords (s.listEntry i e)).thrset
      | none => (s.descWords (s.listEntry i e)).thrset) ∧
    (let ptr := curvePtr acc
     let a := s.get ptr
     (Completes (.crvPdAccess acc none) s fun t => t.get ptr = (a + 1) % 4096 ∧ t.cal = s.cal) ∧
       (Completes (.crvPdAccess acc (some v)) s fun t => t.get ptr = (a + 1) % 4096 ∧
         (s.curveWritable acc a = false → t.cal = s.cal) ∧
         (s.curveWritable acc a = true → 0x400 ≤ a → a < 0x800 → ∀ b, t.curveWord b = if b = a then v else s.curveWord b) ∧
         (∀ m : Sector, acc = .prog m → 0x400 ≤ a → a < 0x808 → s.hasUnit m 15 = true → s.holds m 15 = false →
           t.cal = s.cal ∧ t.get ⟨A.LOCK_NH, 4 * m + 3, 4 * m⟩ = min 15 (s.get ⟨A.LOCK_NH, 4 * m + 3, 4 * m⟩ + 1)))) ∧
    (let a := s.get F.MEM_THP_PTR
     (Completes (.thermosDataAccess acc none) s fun t => t.get F.MEM_THP_PTR = (a + 1) % 512 ∧ RegsKept [A.MEM_THP] s t ∧
       Keeps [.regs, .flips] s t) ∧
     (n = 0 → Completes (.thermosDataAccess acc (some v)) s fun t => t.get F.MEM_THP_PTR = (a + 1) % 512 ∧
       ∀ b, t.thermosWord b = if b = a ∧ 0xC0 ≤ a ∧ a < 0x100 then v else s.thermosWord b) ∧
     (n ≠ 0 → Completes (.thermosDataAccess acc (some v)) s fun t => t.get F.MEM_THP_PTR = a ∧ t.mem = s.mem))

/-- The command at the head of a lane's queue acts when its point has come: lmode sets mode, parameter and SEQ 0 and starts or arms the
mode, lchan and lswap change their entry and bank, ltrig starts an armed lane or sets TRGX; it waits while the domain is down, and an lmode
to a converting mode is discarded with LTXD while the share is exhausted. A calibration running on the lane aborts when a command acts. A
frame start starts a lane armed with FRAME. Chain reset latches the descriptor, the profile and the set of the lane's gain; in a
calibration's measurement the descriptor and profile are those of the request. A settled CONT sample enters the FIFO with DESC and SEQ, or
sets OVF; a lane without its clock is frozen. A closed window applies the words held. Shadow time-outs deliver marked. LANE_HCMD is held, or
counted where a guest owns the lane. LRSTi flushes the lane; both need CORE ON. (06_clocks_and_power_domains.md R147, 08_front_end.md R196,
09_lanes_and_filters.md R208 to R213, R217 to R222, R225 to R227, R231, R232, 10_curves_and_calibration.md R243, R249, 05_sectors.md R124,
16_reset_and_boot.md R377) -/
def Obligations.LaneEvents : Prop :=
  ∀ (s : State) (i : LaneId), Memory.wf s = true →
    let x := s.lanes[i]
    let others (t : State) : Prop := ∀ j : LaneId, j ≠ i → t.lanes[j] = s.lanes[j]
    let up := s.isOn (.lane i) = true ∧ (s.dom (.lane i)).moving = none ∧ s.pwr.pll = true
    let noCal := ∀ r, s.cal.active = some r → r.lane ≠ i
    let effect (c : LaneCmd) (P : State → Prop) : Prop := x.queue = [c] → Completes (.laneCommandEffect i) s fun t =>
      t.lanes[i].queue = [] ∧ others t ∧ P t
    (x.queue = [] → exec (.laneCommandEffect i) s = .next s) ∧
    (s.isOn (.lane i) = false → s.pwr.autoRet[i] = false → s.laneTimeOut i = false → exec (.laneCommandEffect i) s = .next s) ∧
    (∀ (m : Nat) (p : Word), 2 ≤ m → s.laneTimeOut i = true → effect (.mode m p) fun t =>
      t.isSet (F.LANE_FLAG_LTXD i) = true ∧ t.lanes[i] = { x with queue := [] } ∧ RegsKept [A.LANE_FLAG i] s t ∧ Keeps [.regs, .flips, .lanes] s t) ∧
    (up → noCal → x.conv = none → ∀ (m : Nat) (p : Word),
      (m < 2 → x.mode ≤ 4 → effect (.mode m p) fun t => t.lanes[i].mode = m ∧ t.lanes[i].due = false ∧ t.lanes[i].armed = false ∧
        t.lanes[i].fifo = x.fifo ∧ Keeps [.lanes, .pwr] s t) ∧
      (2 ≤ m → m < 12 → m ≠ 10 → (m = 9 → s.cal.active = none) → x.mode < 2 → s.laneTimeOut i = false → effect (.mode m p) fun t =>
        let arms := m ∈ [5, 6, 11] ∧ s.laneTrig i ≠ 0
        t.lanes[i].mode = m ∧ t.lanes[i].param = p ∧ t.get (F.LANE_SEQ_SEQ i) = 0 ∧ t.lanes[i].thr = Vector.replicate 16 {} ∧
          (arms → t.lanes[i].armed = true ∧ t.lanes[i].due = false) ∧
          (¬arms → m ≠ 9 → t.lanes[i].due = true ∧ t.lanes[i].armed = false ∧
            (m = 6 → t.lanes[i].count = if p.toNat % 4096 = 0 then 4096 else p.toNat % 4096)) ∧
          (m = 3 → t.get (F.LANE_SCAN_LEN i) = p.toNat % 16) ∧
          (m = 11 → t.lanes[i].base = if p.toNat % 16 ∈ [2, 3, 7, 8] then p.toNat % 16 else 2) ∧
          (m = 9 → ∃ r, t.cal.active = some r ∧ r.fg = true ∧ r.lane = i ∧ r.kind = min (p.toNat / 64 % 4) 2 ∧ r.desc = p.toNat % 64) ∧
          RegsKept [A.LANE_SEQ i, A.LANE_SCAN i, A.LANE_FLAG i] s t ∧ Keeps [.regs, .flips, .lanes, .pwr, .cal] s t)) ∧
    (up → ∀ r, s.cal.active = some r → r.lane = i → x.mode = 9 → ∀ c, (c = .trig ∨ c = .swap ∨ ∃ (e : Fin 16) (d : Fin 64), c = .chan e d) →
      effect c fun t => t.cal.active = none ∧ t.lanes[i].mode = 1 ∧ t.get (F.CAL_RES_CODE r.sec) = 1 ∧ t.event r.sec 25 = true) ∧
    (up → noCal → ∀ (e : Fin 16) (d : Fin 64), effect (.chan e d) fun t =>
      let other := if s.listEntry i e = d then x.thr else x.thr.set e {}
      t.listEntry i e = d ∧ (∀ f : Fin 16, f ≠ e → t.listEntry i f = s.listEntry i f) ∧
        t.lanes[i] = { x with queue := [], thr :=
          match x.conv with
          | some c => if c.entry = e.val ∧ c.cal = false then x.thr.set e { x.thr[e] with retake := decide (c.d ≠ d.val) } else other
          | none => other } ∧
        RegsKept [A.LANE_LIST i (e / 3)] s t ∧ Keeps [.regs, .flips, .lanes] s t) ∧
    (up → noCal → effect .swap fun t => Keeps [.lanes] s t ∧ t.lanes[i] =
      if x.conv = none then { x with queue := [], bankB := !x.bankB } else { x with queue := [], swap := true }) ∧
    (up → noCal → x.ran = false →
      (x.armed = true → s.laneTrig i = 1 → effect .trig fun t => t.lanes[i].due = true ∧ t.lanes[i].armed = false ∧ t.lanes[i].mode = x.mode ∧
        Keeps [.lanes, .pwr] s t) ∧
      (x.armed = false ∨ s.laneTrig i ≠ 1 → effect .trig fun t => t.isSet (F.LANE_FLAG_TRGX i) = true ∧
        t.lanes[i] = { x with queue := [] } ∧ RegsKept [A.LANE_FLAG i] s t)) ∧
    (x.armed = true → s.laneTrig i = 2 → Completes (.laneFrameTrigger i) s fun t => t.lanes[i].due = true ∧ t.lanes[i].armed = false ∧
      t.lanes[i].mode = x.mode ∧ others t ∧ Keeps [.lanes] s t) ∧
    (x.armed = false ∨ s.laneTrig i ≠ 2 → exec (.laneFrameTrigger i) s = .next s) ∧
    (let d := s.listEntry i (if x.kind = 3 then x.entry else 0)
     let set := setAddr i (s.descWords d).gain
     x.due = true → up → (x.mode = 9 → s.cal.active = none) → Completes (.chainReset i) s fun t => others t ∧ Keeps [.lanes, .afe] s t ∧
      t.lanes[i].due = false ∧ t.lanes[i].desc = d ∧
      t.lanes[i].window = some (s.descWords d) ∧ t.lanes[i].queue = x.queue ∧ ∃ c, t.lanes[i].conv = some c ∧ c.d = d ∧
        c.desc = s.descWords d ∧ c.prof = s.profWords (s.descWords d).fprof ∧ c.begun = false ∧ c.chain = {} ∧ c.cal = false ∧
        c.ofs = s.curveWord set ∧ c.gcor = s.curveWord (set + 1)) ∧
    (x.due = true → up → x.mode = 9 → ∀ r, s.cal.active = some r → Completes (.chainReset i) s fun t => others t ∧ Keeps [.lanes, .afe] s t ∧
      t.lanes[i].due = false ∧ t.lanes[i].queue = x.queue ∧ ∃ c, t.lanes[i].conv = some c ∧ c.cal = true ∧ c.d = r.desc ∧ c.chain = {} ∧
        (r.kind ≠ 3 → r.kind ≠ 4 → c.desc = s.descWords r.desc ∧ c.prof = s.profWords (s.descWords r.desc).fprof)) ∧
    (x.due = false ∨ ¬up → exec (.chainReset i) s = .next s) ∧
    (∀ (ms : List Bool) (o : Pads),
      (x.conv = none ∨ ¬up → exec (.sampleBoundary i ms o) s = .next s) ∧
      (Completes (.sampleBoundary i ms o) s fun t => others t ∧ Keeps [.regs, .flips, .lanes, .cal, .pwr, .tw, .mem, .free] s t) ∧
      ∀ (c : Conv) (v : Acc) (ch : Chain), x.conv = some c → up → x.mode = 2 → s.get (F.LANE_CTL_CNT i) = 0 → x.ltStop = false →
        c.cal = false → c.test = none → c.twoPhase = false → c.ratio = false → c.bad = false → c.refBad = false →
        c.prof.crv = false → c.prof.ntaps = 0 → c.prof.len = 1 → ms ≠ [] → runCic c.prof ms c.chain = (some v, ch, []) → c.prof.order ≤ ch.cics →
        Completes (.sampleBoundary i ms o) s fun t =>
          let q := s.get (F.LANE_SEQ_SEQ i)
          t.lanes[i].mode = 2 ∧ t.lanes[i].conv ≠ none ∧ t.lanes[i].atBoundary = true ∧
            t.get (F.LANE_SEQ_SEQ i) = (q + 1) % ((F.LANE_SEQ_SEQ i).max + 1) ∧
            (x.fifo.length = 16 → t.lanes[i].fifo = x.fifo ∧ t.isSet (F.LANE_STATUS_OVF i) = true) ∧
            (x.fifo.length < 16 → ∃ h : Word, t.lanes[i].fifo = x.fifo ++ [⟨(averageOut c.prof [narrow v.toInt c.prof.s1 false]).1, h⟩] ∧
              h.extractLsb' 11 6 = BitVec.ofNat 6 c.d ∧ h.extractLsb' 7 4 = BitVec.ofNat 4 q)) ∧
    (Completes (.gatingWindowClose i) s fun t => t.lanes[i] = { x with window := none } ∧ others t ∧ ∀ (u : Fin 7) (w : Word),
      let busy := (s.onLane i fun y => { y with window := none }).unitBusy u
      s.afe.held[u] = some w → t.afe.held[u] = (if busy then some w else none) ∧
        (busy = false → u.val < 4 → t.word (A.IEXC_CTL u) = (s.word (A.IEXC_CTL u) &&& 2) ||| (w &&& 0x3FFFC))) ∧
    (x.held = [] → exec (.shadowTimeout i) s = .next s) ∧
    (∀ h rest, x.held = h :: rest → Completes (.shadowTimeout i) s fun t => t.lanes[i].held = rest ∧ others t ∧
      t.isSet (F.LANE_FLAG_SHTO i) = true ∧ t.get (F.LANE_SHST_TMOCNT i) = min (F.LANE_SHST_TMOCNT i).max (s.get (F.LANE_SHST_TMOCNT i) + 1) ∧
      (∀ n, s.laneOwner i = some n → t.event n 23 = true) ∧
      (x.fifo.length < 16 → t.lanes[i].fifo = x.fifo ++ [{ h.sample with header := h.sample.header ||| 4 }])) ∧
    (s.isOn .core = true → ∀ v : Word,
      (s.laneOwner i = some 0 ∨ s.laneOwner i = none → Completes (.laneHcmd i v) s fun t =>
        t.lanes[i] = { x with hcmd := some v, hcmdAfter := false } ∧ others t ∧ Keeps [.lanes] s t) ∧
      ∀ n : Sector, n ≠ 0 → s.laneOwner i = some n → Completes (.laneHcmd i v) s fun t => Keeps [.regs, .flips] s t ∧
        t.get (F.LANE_DISAGREE_COUNT i) = min (F.LANE_DISAGREE_COUNT i).max (s.get (F.LANE_DISAGREE_COUNT i) + 1) ∧ RegsKept [A.LANE_DISAGREE i] s t) ∧
    ∀ acc : Accessor, s.isOn .core = true →
      (s.hasLane acc.sector i = true → noCal → Completes (.laneReset acc i) s fun t => others t ∧ t.armed = false ∧
        t.lanes[i].queue = [] ∧ t.lanes[i].fifo = [] ∧ t.lanes[i].stream = [] ∧ t.lanes[i].conv = none ∧ t.lanes[i].bankB = x.bankB ∧
        t.lanes[i].thr = Vector.replicate 16 {} ∧ t.get (F.LANE_SEQ_SEQ i) = 0 ∧
        t.lanes[i].mode = (if (s.dom (.lane i)).state = .off then 0 else 1) ∧
        RegsKept [A.SYS_KEY, A.LANE_SEQ i] s t ∧ Keeps [.regs, .flips, .lanes, .pwr, .host] s t) ∧
      (s.hasLane acc.sector i = false → Completes (.laneReset acc i) s fun t =>
        RegsKept [A.SYS_KEY, A.SEQ_XST acc.sector] s t ∧ Keeps [.regs, .flips, .host] s t)

/-- With HOST ON a frame is judged by the checks of Table HST-3 in order: header CRC, opcode and width, BUSY, DENIED under RESTRICT, RANGE
(a register run past FFFh, a window run past GLEN), data CRC; the first that fails is driven and counted, and the transaction stands. A
frame cut before its data ends only counts TRUNC, clocks beyond the ACK byte count LONG, and a header whose CRC matches ends the host's
silence. A request that passes is PENDING with its words, ECHO is DONE with them. In single width the state byte T is driven first. STATUS
drives the answer of Table HST-4; it releases a DONE answer with RELEASE, ABORT ends a PENDING one with code 07h. Direct service reads a
register or a word of the window, or writes a word. An answer left 32,768 ticks is gone; a host silent for LIM × 1024 ticks sets HWEXP.
(13_host_port.md R297, R298, R300 to R306, R310, R315, Tables HST-1 to HST-5) -/
def Obligations.HostFrames : Prop :=
  ∀ (s : State) (h : HostHead) (l : List Byte) (dcrc : Byte), Memory.wf s = true →
    let n := headCount h
    let a := h.addr.toNat
    let counts (f : Fld) (t : State) : Prop := t.get f = min f.max (s.get f + 1) ∧ RegsKept [f.addr] s t
    let stands (t : State) : Prop := t.host.state = s.host.state ∧ t.host.txn = s.host.txn ∧ t.host.out = s.host.out ∧ t.host.selected = false ∧
      Keeps [.regs, .flips, .host, .pwr, .mem] s t
    let T : Byte := if s.host.state = 0 then 0
      else if s.host.state = 1 then BitVec.ofNat 8 (64 + 16 * s.host.txn.sect.val + s.host.txn.op)
      else BitVec.ofNat 8 (128 + 16 * s.host.txn.sect.val + s.host.txn.op)
    let refuses (c : Instr) (long : Bool) (code : Nat) (f : Fld) : Prop := Completes c s fun t =>
      t.host.ack = code ∧ t.host.line.getLast? = some (BitVec.ofNat 8 code) ∧ stands t ∧ t.get f = min f.max (s.get f + 1) ∧
        (if long then t.get F.HST_ERRB_LONG = min F.HST_ERRB_LONG.max (s.get F.HST_ERRB_LONG + 1) ∧ RegsKept [f.addr, A.HST_ERRB] s t
         else RegsKept [f.addr] s t) ∧
        t.host.silence = (if code = 2 then s.host.silence else 0) ∧ t.mem.hamper = s.mem.hamper
    let crcOk (op : Nat) : Prop := crc8 (headBytes (headCmd op h) h.addr h.cnt) = h.hcrc
    let foreign := s.isSet F.SEC_HATT_RESTRICT = true ∧ s.get F.SEC_HATT_SECT ≠ h.sect.val
    let rows := [(1, Instr.rdreg h), (2, Instr.wrreg h l dcrc), (3, Instr.rdmem h), (4, Instr.wrmem h l dcrc), (5, Instr.rdstrm h),
      (8, Instr.echo h l dcrc), (6, Instr.status h), (6, Instr.release h), (6, Instr.abort h)] ++
      (if a / 2 ^ 13 % 4 = 0 then [(7, Instr.imgldWrite h l dcrc)] else if a / 2 ^ 13 % 4 = 1 then [(7, Instr.imgldErase h)]
       else if a / 2 ^ 13 % 4 = 2 then [(7, Instr.imgldLoad h)] else [])
    (∀ r ∈ rows, s.isOn .host = false → Completes r.2 s fun t => stands t ∧ t.regs = s.regs ∧ t.mem = s.mem) ∧
    let carries (op : Nat) : Prop := op = 8 ∨ op = 2 ∨ op = 4 ∨ (op = 7 ∧ a / 2 ^ 13 % 4 = 0)
    (s.isOn .host = true →
      (∀ r ∈ rows, carries r.1 → l.length < 3 * n → Completes r.2 s fun t => stands t ∧ counts F.HST_ERRB_TRUNC t ∧ t.host.ack = s.host.ack ∧
        (crcOk r.1 → t.host.silence = 0) ∧ (¬crcOk r.1 → t.host.silence = s.host.silence)) ∧
      (∀ r ∈ rows, (carries r.1 → 3 * n ≤ l.length) → (¬crcOk r.1 → refuses r.2 h.long 2 F.HST_ERRA_HDRC) ∧
        (crcOk r.1 → 2 ≤ h.width.val → refuses r.2 h.long 8 F.HST_ERRA_ILLC) ∧
        (crcOk r.1 → h.width.val < 2 → r.1 ∉ [6, 8] →
          (s.host.state = 1 → refuses r.2 h.long 1 F.HST_ERRB_BUSYC) ∧ (s.host.state ≠ 1 → foreign → refuses r.2 h.long 4 F.HST_ERRB_DENC) ∧
          (s.host.state ≠ 1 → ¬foreign →
            (r.1 ≤ 2 → a / 2 ^ 12 = 0 → 0xFFF < a + n - 1 → refuses r.2 h.long 6 F.HST_ERRB_RNGC) ∧
            (r.1 ∈ [3, 4] → 1024 * s.get (F.SEC_WIN_GLEN h.sect) < a + n → refuses r.2 h.long 6 F.HST_ERRB_RNGC) ∧
            (r.1 = 7 → s.isSet F.SEC_HATT_RESTRICT = true ∨ s.boot.policy.hostnold = true → refuses r.2 h.long 4 F.HST_ERRB_DENC)))) ∧
      (∀ r ∈ rows, crcOk r.1 → h.width.val < 2 → r.1 ≠ 6 → (r.1 ≠ 8 → s.host.state ≠ 1 ∧ s.hostDenied r.1 h = false ∧ s.hostOutside r.1 h = false) →
        let data := carries r.1
        (data → 3 * n ≤ l.length → crc8 (l.take (3 * n)) ≠ dcrc → refuses r.2 h.long 3 F.HST_ERRA_DATC) ∧
        (¬data ∨ 3 * n ≤ l.length ∧ crc8 (l.take (3 * n)) = dcrc → Completes r.2 s fun t => t.host.ack = 0 ∧ t.host.doneTicks = 0 ∧
          t.host.line.getLast? = some 0 ∧ (h.width.val = 0 → t.host.line.head? = some T) ∧
          t.host.silence = 0 ∧ t.host.txn.op = r.1 ∧ t.host.txn.sect = h.sect ∧ t.host.txn.addr = h.addr ∧ t.host.txn.cnt = n ∧ t.host.txn.code = 0 ∧
          (r.1 ≠ 8 → t.host.state = 1 ∧ t.host.txn.served = 0 ∧ t.host.txn.answer = [] ∧ (t.host.direct = true ↔ ∀ m : Sector, s.running m = false)) ∧
          (r.1 = 8 → t.host.state = 2 ∧ t.host.txn.answer = bytesWords (l.take (3 * n))) ∧
          (data → r.1 ≠ 7 → t.host.txn.words = bytesWords (l.take (3 * n))) ∧ (data → r.1 = 7 → t.host.txn.bytes = l.take (3 * n)) ∧
          (s.host.state = 2 → t.get F.HST_ERRB_UNCOLL = min F.HST_ERRB_UNCOLL.max (s.get F.HST_ERRB_UNCOLL + 1)) ∧ t.mem.hamper = s.mem.hamper)) ∧
      (∀ c ∈ [Instr.status h, Instr.release h, Instr.abort h], crcOk 6 → h.width.val < 2 → Completes c s fun t =>
        let x := s.host.txn
        let whole := c = .release h ∨ h.long = true
        t.host.selected = false ∧ t.host.silence = 0 ∧
          t.host.line = (if h.width.val = 0 then T :: List.replicate 4 0 else []) ++ t.host.out ∧ t.host.out.getLast? = some (crc8 t.host.out.dropLast) ∧
          (s.host.state = 0 → t.host.out.dropLast = [0, 0, 0, 0] ∧ t.host.state = 0) ∧
          (s.host.state = 1 → t.host.out.dropLast = [1, BitVec.ofNat 8 (64 + 16 * x.sect.val + x.op), 0, 0] ∧
            (h.addr.getLsbD 1 = false → t.host.state = 1 ∧ t.host.txn = x) ∧
            (h.addr.getLsbD 1 = true → t.host.state = 2 ∧ t.host.txn.code = 7 ∧ t.host.txn.served = x.served)) ∧
          (s.host.state = 2 → x.op ≠ 5 → t.host.out.dropLast = [BitVec.ofNat 8 (128 * bit x.copy + x.code), BitVec.ofNat 8 (128 + 16 * x.sect.val + x.op)] ++
              beBytes 2 x.nw ++ (x.answer.map wordBytes).flatten) ∧
          (s.host.state = 2 → whole → h.addr.getLsbD 0 = true → t.host.state = 0 ∧ t.host.txn = {}) ∧
          (s.host.state = 2 → h.addr.getLsbD 0 = false ∨ ¬whole → t.host.state = 2 ∧ t.host.txn = x)) ∧
      (∀ (cmd : Byte) (k : Nat) (heard : Bool), Completes (.trunc cmd k heard) s fun t => stands t ∧ counts F.HST_ERRB_TRUNC t ∧
        t.host.silence = if heard = true ∧ 5 ≤ k then 0 else s.host.silence) ∧
      (∀ cmd ad ct hc, let op := cmd.toNat / 16
        (crc8 (headBytes cmd ad ct) ≠ hc → refuses (.hostHeaderReject cmd ad ct hc) false 2 F.HST_ERRA_HDRC) ∧
          (crc8 (headBytes cmd ad ct) = hc → op = 0 ∨ 9 ≤ op ∨ 2 ≤ cmd.toNat % 4 → refuses (.hostHeaderReject cmd ad ct hc) false 8 F.HST_ERRA_ILLC))) ∧
    (∀ m : Bool, Completes (.hcsFall m) s fun t => t.host = { s.host with selected := true, mode3 := m }) ∧
    (let x := s.host.txn
     let serves (P : State → Prop) : Prop := s.host.direct = true → s.host.state = 1 → s.isOn .core = true → x.cnt = 1 → x.served = 0 →
       x.answer = [] → x.code = 0 → s.get (F.SEC_QOS_HBW x.sect) = 0 → Completes .hostDirectService s fun t => t.host.state = 2 ∧ t.host.txn.served = 1 ∧ P t
     (x.op = 1 → serves fun t => let o := s.readReg (.host x.sect) (BitVec.ofNat 12 x.addr.toNat)
       t.host.txn.answer = [o.word] ∧ t.host.txn.code = if o.denied then 4 else 0) ∧
     (∀ p, s.inWindow x.sect x.addr.toNat = some p →
       (x.op = 3 → s.hamperUpset p = .none → serves fun t => t.host.txn.answer = [s.hamperWord p] ∧ ∀ q, t.hamperWord q = s.hamperWord q) ∧
       (x.op = 4 → serves fun t => t.host.txn.answer = [] ∧ ∀ q, t.hamperWord q = if q = p then x.words.getD 0 0 else s.hamperWord q)) ∧
     (s.host.direct = false ∨ s.host.state ≠ 1 ∨ s.isOn .core = false → exec .hostDirectService s = .next s)) ∧
    (s.host.state = 2 → 32768 ≤ s.host.doneTicks → Completes .uncoll s fun t => t.host.state = 0 ∧ t.host.txn = {} ∧ counts F.HST_ERRB_UNCOLL t) ∧
    (s.host.state ≠ 2 ∨ s.host.doneTicks < 32768 → exec .uncoll s = .next s) ∧
    (let lim := s.get F.HOST_WDT_LIM
     (lim ≠ 0 → lim * 1024 ≤ s.host.silence → s.isSet F.HOST_WDT_ACT = false → Completes .hwexp s fun t =>
       t.isSet F.HST_STAT_HWEXP = true ∧ RegsKept [A.HST_STAT] s t ∧ Keeps [.regs, .flips, .host, .mem] s t) ∧
     (lim = 0 ∨ s.host.silence < lim * 1024 → exec .hwexp s = .next s))

/-- With CORE ON the key written to SYS_KEY arms it for 256 ticks; any other value disarms it, counts KERR and is logged; its expiry
disarms. A write to SYS_KEY's address is that. A write by sector 0 of a plain keyed register, with the key armed, puts the value in its
fields; disarmed and changing a field, it is refused: KDN counts, a KEY entry is logged, nothing changes; changing none, it is not counted.
A guest's write is refused. LANE_CTL needs the lane and no key. An S field's write enters the post queue and changes no register yet; a
host's write to a full queue is not made, a program's is the breach POSTQ. PERIOD ignores values below 8 and rejects, with PREJ, one that a
loaded image does not fit. Every judged write disarms the key. A window written by sector 0 under the key takes its defined bits alone, or
sets GREJ where it meets another's or the sector is not STOPPED. With CORE not ON no write has an effect. (00_scope.md R13,
01_frame_and_machine.md R18, 05_sectors.md Table SEC-13, 06_clocks_and_power_domains.md R138, R140, 13_host_port.md R303, R311,
18_register_map.md R414, R449, R450) -/
def Obligations.RegisterWrites : Prop :=
  ∀ (s : State) (acc : Accessor) (v : Word) (n : Sector) (i : LaneId), Memory.wf s = true →
    let on := s.isOn .core = true
    let write (a : Nat) (P : State → Prop) : Prop := on → Completes (.registerWrite acc (BitVec.ofNat 12 a) v) s P
    let ix : Nat := match acc with | .prog _ => 0 | .host _ => 1
    let logged (code detail : Nat) (t : State) : Prop := s.mem.logq.length < 4 →
      t.mem.logq = s.mem.logq ++ [⟨8, acc.sector.val, ix, code, BitVec.ofNat 18 detail, s.tick⟩]
    let plain : List (Nat × Word) := [(A.SEC_QOS n, 0x3FFFF), (A.SEC_EQ n, 0x3FFFF), (A.SEC_LTQ n, 0x3FF), (A.LOCK_PRI, 0xFF),
      (A.LOCK_HOLDMAX, 0xFFF), (A.SEC_HATT, 7), (A.NET_CTL, 0x3FFFF)]
    (s.isOn .core = false → ∀ a : BitVec 12, exec (.registerWrite acc a v) s = .next s ∧ exec (.sysKeyWrite acc v) s = .next s) ∧
    (acc.sector = 0 → s.armed = true → s.stopped n = true → s.grantClash n 2 v = false → write (A.SEC_WIN n) fun t =>
      t.word (A.SEC_WIN n) = v &&& 0x1FFF ∧ RegsKept [A.SYS_KEY, A.SEC_WIN n] s t ∧ Keeps [.regs, .flips, .host] s t) ∧
    (acc.sector = 0 → s.armed = true → s.stopped n = false ∨ s.grantClash n 2 v = true → write (A.SEC_WIN n) fun t =>
      t.isSet (F.SEC_STAT_GREJ n) = true ∧ RegsKept [A.SYS_KEY, A.SEC_STAT n] s t ∧ Keeps [.regs, .flips, .host] s t) ∧
    (on → v = 0x2C3A5 → Completes (.sysKeyWrite acc v) s fun t => t.armed = true ∧ t.host = { s.host with keyTicks := 256 } ∧
      RegsKept [A.SYS_KEY] s t ∧ Keeps [.regs, .flips, .host] s t) ∧
    (on → v ≠ 0x2C3A5 → Completes (.sysKeyWrite acc v) s fun t => t.armed = false ∧ logged 1 v.toNat t ∧
      t.get F.SYS_KEYERR_KERR = min F.SYS_KEYERR_KERR.max (s.get F.SYS_KEYERR_KERR + 1) ∧
      RegsKept [A.SYS_KEY, A.SYS_KEYERR] s t ∧ Keeps [.regs, .flips, .host, .mem] s t) ∧
    (s.host.keyTicks = 0 → Completes .sysKeyExpiry s fun t => t.armed = false ∧ RegsKept [A.SYS_KEY] s t ∧ Keeps [.regs, .flips, .host] s t) ∧
    (s.host.keyTicks ≠ 0 → exec .sysKeyExpiry s = .next s) ∧
    exec (.registerWrite acc (BitVec.ofNat 12 A.SYS_KEY) v) s = exec (.sysKeyWrite acc v) s ∧
    (∀ r ∈ plain,
      (acc.sector = 0 → s.armed = true → write r.1 fun t => t.armed = false ∧ t.word r.1 = (s.word r.1 &&& ~~~ r.2) ||| (v &&& r.2) ∧
        RegsKept [A.SYS_KEY, r.1] s t ∧ Keeps [.regs, .flips, .host] s t) ∧
      (acc.sector = 0 → s.armed = false → v &&& r.2 ≠ s.word r.1 &&& r.2 → write r.1 fun t => logged 2 r.1 t ∧
        t.get F.SYS_KEYERR_KDN = min F.SYS_KEYERR_KDN.max (s.get F.SYS_KEYERR_KDN + 1) ∧ RegsKept [A.SYS_KEYERR] s t ∧ Keeps [.regs, .flips, .mem] s t) ∧
      (acc.sector = 0 → s.armed = false → v &&& r.2 = s.word r.1 &&& r.2 → write r.1 fun t => RegsKept [] s t ∧ Keeps [.regs, .flips] s t) ∧
      (acc.sector ≠ 0 → write r.1 fun t => t.armed = false ∧ RegsKept [A.SYS_KEY, A.SEQ_XST acc.sector] s t ∧ Keeps [.regs, .flips, .host] s t ∧
        (ix = 0 → t.isSet (F.SEQ_XST_REGDN acc.sector) = true) ∧ (ix = 1 → RegsKept [A.SYS_KEY] s t))) ∧
    (s.hasLane acc.sector i = true → write (A.LANE_CTL i) fun t => t.armed = false ∧
      t.word (A.LANE_CTL i) = (s.word (A.LANE_CTL i) &&& 0x7000) ||| (v &&& 0x38FFF) ∧ RegsKept [A.SYS_KEY, A.LANE_CTL i] s t) ∧
    (s.hasLane acc.sector i = false → write (A.LANE_CTL i) fun t => RegsKept [A.SYS_KEY, A.SEQ_XST acc.sector] s t) ∧
    (acc.sector = 0 →
      (s.pwr.posts.length < 8 → write A.PWR_LRET fun t => t.armed = false ∧ t.pwr = { s.pwr with posts := s.pwr.posts ++ [⟨A.PWR_LRET, 0xFF, v, acc, 0⟩] } ∧
        RegsKept [A.SYS_KEY] s t ∧ Keeps [.regs, .flips, .host, .pwr] s t) ∧
      (8 ≤ s.pwr.posts.length → ix = 1 → exec (.registerWrite acc (BitVec.ofNat 12 A.PWR_LRET) v) s = .next s) ∧
      (8 ≤ s.pwr.posts.length → ix = 0 → write A.PWR_LRET fun t => t.armed = false ∧ t.pwr.posts = s.pwr.posts ∧
        t.isSet (breachFlag 0 3) = true ∧ t.event 0 0 = true ∧ t.word A.PWR_LRET = s.word A.PWR_LRET)) ∧
    (on → acc.sector = 0 → s.armed = true → s.pwr.posts.length < 8 →
      (v.toNat < 8 → Completes (.periodWrite acc v) s fun t => t.armed = false ∧ t.pwr = s.pwr ∧ RegsKept [A.SYS_KEY] s t) ∧
      (8 ≤ v.toNat → s.periodFits v.toNat = false → Completes (.periodWrite acc v) s fun t => t.armed = false ∧ t.pwr = s.pwr ∧
        t.isSet F.SCH_SYNC_PREJ = true ∧ RegsKept [A.SYS_KEY, A.SCH_SYNC] s t) ∧
      (8 ≤ v.toNat → s.periodFits v.toNat = true → Completes (.periodWrite acc v) s fun t => t.armed = false ∧
        t.pwr = { s.pwr with posts := s.pwr.posts ++ [⟨A.SCH_FRAME, 0x3FFFF, v, acc, 0⟩] } ∧ RegsKept [A.SYS_KEY] s t)) ∧
    (acc.sector ≠ 0 → Completes (.periodWrite acc v) s fun t => t.pwr = s.pwr ∧ RegsKept [A.SYS_KEY, A.SEQ_XST acc.sector] s t)

/-- A turn drives TRAIN first, then on an UP link either the unacknowledged frames again or, within the window of 4, new frames in the order
HB, SHD, MSG, MIR numbered from the next SEQ, and an ACK frame where nothing else carries one; a collision counts and sends nothing, and
without VDDIO nothing is driven. A received sequenced frame takes its cumulative ACK; one of a wrong length counts TYPX, one out of sequence
OOS, and one that needs a buffer and finds none free is acknowledged but not accepted. An accepted HB clears the miss count, and restarts
training where the incarnation is new; MSG and MIR wait in a buffer where ring and granule take them, else count DROP and MIRX; a chunk with
FIRST opens a mirror pass, one with LAST ends it, and a discarded one breaks it; SHD records are compared or kept. TRAIN completes training
once both sides have heard, choosing roles by R331; on an UP link it is only answered. POP, with CORE ON, releases a ring entry.
(14_tangent_twin.md R318, R320, R323, R324, R331, R333, R334, R336 to R338, R340 to R342, Tables TWN-3, TWN-6) -/
def Obligations.TangentFrames : Prop :=
  ∀ (s : State) (h : LinkHead) (ws : List Word), Memory.wf s = true →
    let x := s.tw
    let live := s.isOn .twin = true ∧ s.linkUp = true
    let counts (f : Fld) (t : State) : Prop := t.get f = min f.max (s.get f + 1)
    let acked (ack : BitVec 3) (t : State) : Prop := t.tw.outst = match x.outst with
      | [] => []
      | f :: rest => let k := (ack.toNat + 8 - f.seq) % 8; if k = 0 ∨ rest.length + 1 < k then x.outst else x.outst.drop k
    let frame (k : Nat) : LinkFrame := ⟨k, h.sect, h.seq.toNat, ws⟩
    let quiet (t : State) : Prop := Keeps [.regs, .flips, .tw, .pwr, .mem] s t
    let taken (c : Instr) (lenOk space : Prop) (P : State → Prop) : Prop :=
      (¬live → Completes c s fun t => t.tw = x ∧ Keeps [.pwr] s t) ∧
      (live → ¬lenOk → Completes c s fun t => counts F.TW_ERRB_TYPX t ∧ { t.tw with logged := x.logged } = x ∧ RegsKept [A.TW_ERRB] s t ∧ quiet t) ∧
      (live → lenOk → h.seq.toNat ≠ x.expect → Completes c s fun t => counts F.TW_ERRA_OOS t ∧ acked h.ack t ∧ t.tw.owesAck = true ∧
        t.tw.expect = x.expect ∧ t.tw.buf = x.buf ∧ RegsKept [A.TW_ERRA] s t ∧ quiet t) ∧
      (live → lenOk → h.seq.toNat = x.expect → ¬space → Completes c s fun t => acked h.ack t ∧ t.tw.owesAck = true ∧ t.tw.expect = x.expect ∧
        t.tw.buf = x.buf ∧ t.regs = s.regs ∧ quiet t) ∧
      (live → lenOk → h.seq.toNat = x.expect → space → Completes c s fun t => t.tw.owesAck = true ∧ P t)
    let next (t : State) : Prop := t.tw.expect = (x.expect + 1) % 8 ∧ acked h.ack t
    let waits (k pass : Nat) (t : State) : Prop := next t ∧ t.tw.buf = x.buf ++ [⟨frame k, h.ack.toNat, 0, 0, pass⟩] ∧ t.regs = s.regs ∧ quiet t
    let word (k : Nat) : Word := ws.getD k 0
    let first := (word 0).getLsbD 17
    let passNo := if first then x.passNo + 1 else x.passNo
    let begun : List MirrorPass := if first then x.passes.filter (·.last) ++ [⟨x.passNo + 1, false⟩] else x.passes
    let passes := if (word 0).getLsbD 16 then begun.map fun p => if p.id = passNo then { p with last := true } else p else begun
    (∀ ack, (live → Completes (.ackReceived ack) s fun t => acked ack t ∧ Keeps [.tw] s t) ∧ (¬live → exec (.ackReceived ack) s = .next s)) ∧
    ((word 0).toNat = s.get F.TW_PINC_PINC → taken (.hbReceived h ws) (ws.length = 6) True fun t => next t ∧ t.tw.hbAge = 0 ∧ t.linkUp = true ∧
      t.get F.TW_STAT_MISSCNT = 0 ∧ t.get F.TW_PVL_PVL = (word 2).toNat % (F.TW_PVL_PVL.max + 1) ∧ RegsKept [A.TW_STAT, A.TW_PVL] s t ∧ quiet t) ∧
    (live → ws.length = 6 → h.seq.toNat = x.expect → (word 0).toNat ≠ s.get F.TW_PINC_PINC → Completes (.hbReceived h ws) s fun t =>
      t.linkUp = false ∧ t.isSet F.TW_STAT_TRN = true ∧ t.tw.outst = [] ∧ t.tw.sendTrain = true) ∧
    taken (.msgReceived h ws) (1 ≤ ws.length ∧ ws.length ≤ 32) (x.buf.length < 4 ∨ s.running h.sect = false ∨ s.msgFits h.sect = false) (fun t =>
      if s.running h.sect = true ∧ s.msgFits h.sect = true then waits 2 0 t ∧ t.tw.passes = x.passes
      else next t ∧ t.tw.buf = x.buf ∧ quiet t ∧ (s.running h.sect = true → counts (F.TW_RX_DROP h.sect) t ∧ RegsKept [A.TW_RX h.sect] s t) ∧
        (s.running h.sect = false → t.regs = s.regs)) ∧
    taken (.mirReceived h ws) (ws.length = 33) (x.buf.length < 4 ∨ s.running h.sect = false ∨ s.mirrorTakes (frame 3) = false) (fun t =>
      t.tw.passNo = passNo ∧
      if s.running h.sect = true ∧ s.mirrorTakes (frame 3) = true then waits 3 passNo t ∧ t.tw.passes = passes
      else next t ∧ t.tw.buf = x.buf ∧ t.tw.passes = passes.filter (fun p => decide (p.id ≠ passNo)) ∧ quiet t ∧ (s.running h.sect = true → counts F.TW_ERRB_MIRX t ∧ RegsKept [A.TW_ERRB] s t) ∧
        (s.running h.sect = false → t.regs = s.regs)) ∧
    taken (.shdReceived h ws) (3 ≤ ws.length ∧ ws.length ≤ 30 ∧ ws.length % 3 = 0) True (fun t => next t ∧
      ((∀ i : LaneId, s.lanes[i].held = []) → t.tw.shdIn = x.shdIn ++ recordOf ws ∧ t.lanes = s.lanes ∧ t.regs = s.regs) ∧
      ∀ (r : ShdRec) (y : HeldSample), recordOf ws = [r] → s.lanes[r.lane].held = [y] → y.d = r.d → y.seq = r.seq → s.lanes[r.lane].fifo.length < 16 →
        let agrees := (y.sample.value.toInt - r.value.toInt).natAbs ≤ s.get (F.LANE_SHTOL_SHTOL r.lane) ∧ y.sample.header.getLsbD 6 = r.flt ∧
          y.sample.header.getLsbD 4 = r.clip
        t.tw.shdIn = x.shdIn ∧ t.lanes[r.lane].held = [] ∧
          (agrees → t.lanes[r.lane].fifo = s.lanes[r.lane].fifo ++ [y.sample]) ∧
          (¬agrees → t.isSet (F.LANE_FLAG_SHM r.lane) = true ∧
            t.lanes[r.lane].fifo = s.lanes[r.lane].fifo ++ [{ y.sample with header := y.sample.header ||| 4 }])) ∧
    (s.isOn .twin = false ∨ s.twinOn = false → Completes (.trainReceived ws) s fun t => t.tw = x ∧ Keeps [.pwr] s t) ∧
    (s.isOn .twin = true → s.twinOn = true → s.linkUp = true → ws.length = 6 → Completes (.trainReceived ws) s fun t =>
      t.tw = { x with gotTrain := true, sendTrain := true } ∧ Keeps [.tw, .pwr] s t) ∧
    (s.isOn .twin = true → s.twinOn = true → ws.length ≠ 6 → Completes (.trainReceived ws) s fun t => counts F.TW_ERRB_TYPX t ∧ RegsKept [A.TW_ERRB] s t) ∧
    (∀ p ackt, partnerOf ws = some (p, ackt) → s.isOn .twin = true → s.twinOn = true → s.linkUp = false → s.isSet F.TW_STAT_TRN = true →
      (x.gotAck = false → ackt = false → Completes (.trainReceived ws) s fun t =>
        t.tw = { x with gotTrain := true, sendTrain := true, partner := p } ∧ t.regs = s.regs) ∧
      (x.gotAck = true ∨ ackt = true → Completes (.trainReceived ws) s fun t =>
        let own := s.isSet F.TW_STAT_CLMOWN
        let pref := s.isSet F.TW_CTL_PREF
        let self := if pref = p.pref then decide (s.serial < p.serial) else pref
        t.linkUp = true ∧ t.isSet F.TW_STAT_TRN = false ∧ t.tw.nextSeq = 0 ∧ t.tw.expect = 0 ∧ t.tw.outst = [] ∧ t.get F.TW_PINC_PINC = p.inc.toNat ∧
          (own = true → t.role = 3) ∧ (own = false → p.own = true ∨ self = false → t.role = 2) ∧
          (own = false → p.own = false → self = true → t.role = s.role ∧ t.tw.chosen = true) ∧
          (p.period ≠ s.get F.SCH_FRAME_PERIOD → t.isSet F.TW_STAT_PERX = true))) ∧
    (let errs : List (LinkError × Fld) := [(.character, F.TW_ERRB_CODEE), (.babble ws.length, F.TW_ERRB_BABL),
       (.crc (BitVec.ofNat 8 ws.length) 0, F.TW_ERRA_CRCE), (.type (BitVec.ofNat 8 ws.length) 0, F.TW_ERRB_TYPX)]
     ∀ e ∈ errs, (s.isOn .twin = true → Completes (.tangentFrameError e.1) s fun t => counts e.2 t ∧ { t.tw with logged := x.logged } = x ∧
         RegsKept [e.2.addr] s t ∧ quiet t) ∧
       (s.isOn .twin = false → exec (.tangentFrameError e.1) s = .next s)) ∧
    (∀ long : Bool,
      (∀ b, s.isOn .twin = false ∨ s.pins.vddio = false → exec (.tangentTurnStart long b) s = .next s) ∧
      (s.isOn .twin = true → s.pins.vddio = true → Completes (.tangentTurnStart long true) s fun t => counts F.TW_ERRB_COLL t ∧ t.tw = { x with turn := ⟨long, [], true⟩ }) ∧
      (s.isOn .twin = true → s.pins.vddio = true → x.yield = false →
        let head : List LinkFrame := if x.sendTrain then [⟨5, 0, 0, s.trainWords⟩] else []
        let old := if s.linkUp = true ∧ x.resend = true then x.outst.take (4 - head.length) else []
        let new := if s.linkUp = true ∧ x.resend = false then
          numberFrames x.nextSeq (s.newFrames.take (min (4 - head.length) (4 - x.outst.length))) else []
        let ack : List LinkFrame := if x.owesAck = true ∧ head ++ old ++ new = [] then [⟨0, 0, 0, []⟩] else []
        Completes (.tangentTurnStart long false) s fun t => t.tw.turn = ⟨long, (head ++ ack ++ old ++ new).map (·.bytes x.expect), false⟩ ∧
          t.tw.outst = x.outst ++ new ∧ t.tw.nextSeq = (x.nextSeq + new.length) % 8 ∧ t.tw.resend = false ∧ t.tw.owesAck = false ∧
          t.tw.sendTrain = false ∧ t.tw.stalled = (if old = [] ∧ new = [] then x.stalled else x.stalled + 1) ∧ Keeps [.tw] s t)) ∧
    ∀ (acc : Accessor) (n : Sector),
      (s.isOn .core = true → acc.sector = n → 0 < s.get (F.TW_RX_CNT n) → Completes (.twRxPop acc n) s fun t => t.get (F.TW_RX_CNT n) = s.get (F.TW_RX_CNT n) - 1 ∧
        t.get (F.TW_RX_HEAD n) = (s.get (F.TW_RX_HEAD n) + 1) % 4 ∧ t.get (F.TW_RX_DROP n) = s.get (F.TW_RX_DROP n) ∧
        RegsKept [A.SYS_KEY, A.TW_RX n] s t ∧ Keeps [.regs, .flips, .host] s t) ∧
      (acc.sector ≠ n → Completes (.twRxPop acc n) s fun t => RegsKept [A.SYS_KEY, A.SEQ_XST acc.sector] s t ∧ Keeps [.regs, .flips, .host] s t)

/-- A turn without acknowledgement is sent again and counted; after 16 the link goes DOWN: frames and messages are lost and counted, DOWNC
counts and the retry timer runs RETRY × 3,277 ticks. A missed heartbeat counts; at MISS the link goes DOWN and a STANDBY claims, or sets
SPLIT where TWCLM is held; in the other roles nothing else follows. Training resends, fails at its time-out, restarts at the retry timer's
end and at RETRAIN. Losing the partner makes the device SOLO; its return trains. A claim, with VDDIO and TWCLM high at each of 2 +
serial[2:0] edges, sets CLMOWN and, unless SOLO, the role PRIMARY; else it claims nothing. At the first edge of a claim and every 32 ticks
from there a probe takes place: contention at the first gives the claim up for 8 + serial[5:0] ticks, at a later one only sets CLMCOL. YIELD
needs PRIMARY with the link UP; both commands need SYS_KEY and CORE ON. (14_tangent_twin.md R325 to R328, R331 to R335, R340, Tables TWN-4,
TWN-7) -/
def Obligations.TangentTimers : Prop :=
  ∀ (s : State) (low : Bool) (i : LaneId) (acc : Accessor), Memory.wf s = true →
    let x := s.tw
    let window : Nat := let w := s.get F.TW_HBWIN_HBWIN; if w = 0 then x.partner.period + x.partner.period / 8 else w
    let retry : Nat := 3277 * max 1 (s.get F.TW_CFG_RETRY)
    let lost : Nat := x.msgs.length + (x.outst.filter fun f => decide (f.type = 2)).length
    let down (t : State) : Prop := t.linkUp = false ∧ t.tw.outst = [] ∧ t.tw.msgs = [] ∧ t.tw.ready = [] ∧ t.tw.pass = none ∧ t.tw.retry = some retry ∧
      t.get (F.TW_RX_DOWNC 0) = min 7 (s.get (F.TW_RX_DOWNC 0) + 1) ∧ t.get F.TW_ERRB_TXLOST = min 7 (s.get F.TW_ERRB_TXLOST + lost)
    let trains (t : State) : Prop := t.linkUp = false ∧ t.isSet F.TW_STAT_TRN = true ∧ t.tw.sendTrain = true ∧ t.tw.trainAge = 0 ∧ t.tw.retry = none
    let en := s.isSet F.TW_CTL_EN
    let pres := s.isSet F.TW_STAT_PRES
    let own := s.isSet F.TW_STAT_CLMOWN
    (s.linkUp = false ∨ x.outst = [] → exec .rtx s = .next s) ∧
    (s.linkUp = true → x.outst ≠ [] →
      (x.stalled < 16 → Completes .rtx s fun t => t.tw = { x with resend := true } ∧ RegsKept [A.TW_ERRA] s t ∧ Keeps [.regs, .flips, .tw] s t ∧
        t.get F.TW_ERRA_RTX = min F.TW_ERRA_RTX.max (s.get F.TW_ERRA_RTX + 1)) ∧
      (16 ≤ x.stalled → Completes .rtx s fun t => down t ∧ t.role = s.role)) ∧
    (s.linkUp = false ∨ x.hbAge < window → exec (.heartbeatMiss low) s = .next s) ∧
    (s.linkUp = true → window ≤ x.hbAge →
      let misses := min 7 (s.get F.TW_STAT_MISSCNT + 1)
      let limit := max 1 (s.get F.TW_CFG_MISS)
      (misses < limit → Completes (.heartbeatMiss low) s fun t => t.get F.TW_STAT_MISSCNT = misses ∧ t.linkUp = true ∧ t.tw.hbAge = 0 ∧
        RegsKept [A.TW_STAT] s t ∧ Keeps [.regs, .flips, .tw] s t) ∧
      (limit ≤ misses → Completes (.heartbeatMiss low) s fun t => down t ∧ t.role = s.role ∧
        (s.role = 2 → low = true → t.isSet F.TW_STAT_SPLIT = true ∧ t.tw.chosen = x.chosen) ∧ (s.role = 2 → low = false → t.tw.chosen = true) ∧
        (s.role ≠ 2 → t.tw.chosen = x.chosen))) ∧
    (s.isSet F.TW_STAT_TRN = true → Completes .trainResend s (fun t => t.tw = { x with sendTrain := true } ∧ Keeps [.tw] s t) ∧
      (32 ≤ x.trainAge → Completes .trainingTimeout s fun t => t.isSet F.TW_STAT_TRN = false ∧
        t.tw = { x with sendTrain := false, retry := some retry } ∧ RegsKept [A.TW_STAT] s t ∧ Keeps [.regs, .flips, .tw] s t)) ∧
    (s.isSet F.TW_STAT_TRN = false → exec .trainResend s = .next s) ∧
    (s.isSet F.TW_STAT_TRN = false ∨ x.trainAge < 32 → exec .trainingTimeout s = .next s) ∧
    (x.retry ≠ some 0 → exec .retryTimerExpiry s = .next s) ∧
    (x.retry = some 0 → Completes .retryTimerExpiry s fun t =>
      if en = true ∧ pres = true then trains t ∧ t.role = s.role else t.tw = { x with retry := none } ∧ Keeps [.tw] s t) ∧
    (pres = true → Completes .presenceChange s fun t => t.isSet F.TW_STAT_PRES = false ∧ t.role = 0 ∧ t.isSet F.TW_STAT_CLMOWN = own ∧
      (s.role ≠ 0 → t.isSet F.TW_STAT_TRN = false ∧ ∀ n : Sector, t.event n 21 = true)) ∧
    (pres = false → Completes .presenceChange s fun t => t.isSet F.TW_STAT_PRES = true ∧
      (en = false → t.role = s.role ∧ RegsKept [A.TW_STAT] s t) ∧
      (en = true → trains t ∧ t.role = if s.role = 0 ∧ own = false then 1 else s.role)) ∧
    let edges := 2 + s.serial % 8
    (∀ high : List Bool, s.mayClaim = false ∨ false ∈ high.take edges ∨ high.length < edges ∨ s.pins.vddio = false →
      exec (.claimAttempt high) s = .next { s with tw := { x with extLow := decide (false ∈ high.take edges) } }) ∧
    (∀ high : List Bool, own = false → x.dropClaim = false → x.claimWait = 0 → s.role = 0 ∨ x.chosen = true ∨ s.role = 2 ∧ s.linkUp = true →
      false ∉ high.take edges → edges ≤ high.length → s.pins.vddio = true →
      Completes (.claimAttempt high) s fun t => t.isSet F.TW_STAT_CLMOWN = true ∧ t.role = (if s.role = 0 then 0 else 3) ∧ t.tw.prevRole = s.role ∧
        t.tw.claimAge = 0 ∧ t.tw.claimOk = false ∧ t.tw.chosen = false) ∧
    (own = false ∨ x.claimAge % 32 ≠ 1 → exec (.claimProbe low) s = .next s) ∧
    (own = true → x.claimAge % 32 = 1 →
      (low = false → Completes (.claimProbe low) s fun t => t.tw = { x with extLow := false, claimOk := true } ∧ Keeps [.tw] s t) ∧
      (low = true → x.claimOk = true → Completes (.claimProbe low) s fun t => t.isSet F.TW_STAT_CLMCOL = true ∧ t.isSet F.TW_STAT_CLMOWN = true ∧
        t.role = s.role ∧ RegsKept [A.TW_STAT] s t) ∧
      (low = true → x.claimOk = false → Completes (.claimProbe low) s fun t => t.isSet F.TW_STAT_CLMCOL = true ∧ t.isSet F.TW_STAT_CLMOWN = false ∧
        t.tw.claimWait = 8 + s.serial % 64 ∧ (en = true → pres = true → x.prevRole ∈ [1, 2] → t.role = x.prevRole) ∧
        (en = false ∨ pres = false → t.role = 0))) ∧
    (s.isOn .core = true → acc.sector = 0 → s.armed = true →
      (en = true → pres = true → s.role = 3 → s.linkUp = true → Completes (.yield acc) s fun t => t.tw = { x with yield := true } ∧ RegsKept [A.SYS_KEY] s t) ∧
      (en = true → pres = true → s.role ≠ 0 → Completes (.retrain acc) s fun t => trains t ∧ t.role = s.role ∧ (s.linkUp = true → t.tw.outst = [])) ∧
      (en = false ∨ pres = false → s.role = 0 → Completes (.retrain acc) s fun t => t.tw = x ∧ RegsKept [A.SYS_KEY] s t)) ∧
    (acc.sector ≠ 0 → ∀ c ∈ [Instr.yield acc, Instr.retrain acc], Completes c s fun t => t.tw = x ∧ RegsKept [A.SYS_KEY, A.SEQ_XST acc.sector] s t) ∧
    ((∀ r ∈ x.shdIn, r.lane ≠ i) → exec (.shadowRecordExpiry i) s = .next s) ∧
    (∀ (l l' : List ShdRec) (r : ShdRec), x.shdIn = l ++ r :: l' → (∀ q ∈ l, q.lane ≠ i) → r.lane = i → Completes (.shadowRecordExpiry i) s fun t =>
      t.tw.shdIn = l ++ l' ∧ t.tw.mismatch[i] = min (x.mismatch[i] + 1) 15 ∧ (∀ j : LaneId, j ≠ i → t.tw.mismatch[j] = x.mismatch[j]) ∧ Keeps [.tw] s t)

/-- Negotiation complete goes to TRAINING; LINK_UP makes the link UP with amplitude and role as negotiated or forced; LDOWN makes it DOWN,
counts and loses the frame on the wire. With the link UP and the wire free the next frame to start is the first device-generated one,
else the first in the queue; its end frees its buffer. A frame that has waited TXTO × 32 ticks is discarded and counted. A committed
sequence register takes the staged high half with its low half; the receive window then holds every SEQ up to it, and SEQLOST clears
once both halves are restored. (15_field_network.md R346, R347, R358 to R361, Tables NET-1, NET-6, NET-7) -/
def Obligations.NetLink : Prop :=
  ∀ s : State, Memory.wf s = true →
    let x := s.net
    let link := s.get F.NET_STAT_LINK
    let forced := s.isSet F.NET_CTL_ANEN = false
    (s.isOn .net = false → exec .negotiationComplete s = .next s ∧ ∀ h m, exec (.linkUp h m) s = .next s) ∧
    (forced ∨ 1 < link → exec .negotiationComplete s = .next s) ∧
    (s.isOn .net = true →
      (¬forced → link ≤ 1 → Completes .negotiationComplete s fun t => t.get F.NET_STAT_LINK = 2 ∧ t.get F.NET_STAT_LDOWN = s.get F.NET_STAT_LDOWN ∧
        RegsKept [A.NET_STAT] s t ∧ Keeps [.regs, .flips] s t) ∧
      ∀ h m : Bool, Completes (.linkUp h m) s fun t => t.get F.NET_STAT_LINK = 3 ∧ RegsKept [A.NET_STAT] s t ∧ Keeps [.regs, .flips] s t ∧
        t.get F.NET_STAT_SEQLOST = s.get F.NET_STAT_SEQLOST ∧
        (¬forced → t.isSet F.NET_STAT_AMPA = h ∧ t.isSet F.NET_STAT_MSA = m) ∧
        (forced → (t.isSet F.NET_STAT_AMPA = true ↔ s.get F.NET_CTL_AMP ∈ [1, 2]) ∧ t.isSet F.NET_STAT_MSA = s.isSet F.NET_CTL_FMS)) ∧
    (link = 0 → exec .ldown s = .next s) ∧
    (link ≠ 0 → Completes .ldown s fun t => t.get F.NET_STAT_LINK = 0 ∧ t.get F.NET_STAT_LDOWN = min 7 (s.get F.NET_STAT_LDOWN + 1) ∧
      t.net = { x with tx := x.tx.filter fun d => !d.sending } ∧ RegsKept [A.NET_STAT] s t ∧ Keeps [.regs, .flips, .net] s t) ∧
    (let q := x.tx.filter fun d => d.bytes.isSome && !d.sending
     let head := (q.find? (·.dev)).or q.head?
     (link ≠ 3 ∨ (∃ d ∈ x.tx, d.sending = true) ∨ q = [] → exec .transmitStart s = .next s) ∧
     (∀ h, head = some h → link = 3 → (∀ d ∈ x.tx, d.sending = false) → Completes .transmitStart s fun t => Keeps [.net] s t ∧
       t.net.rx = x.rx ∧ t.net.tx.length = x.tx.length ∧ (∃ d ∈ t.net.tx, d = { h with sending := true }) ∧
       ∀ k : TxDesc, k ∈ t.net.tx → k.id ≠ h.id → k ∈ x.tx ∧ k.sending = false)) ∧
    (Completes .transmitDone s fun t => t.net = { x with tx := x.tx.filter fun d => !d.sending } ∧ Keeps [.net] s t) ∧
    (let lim := 32 * max 1 (s.get F.NET_CTL_TXTO)
     let late := fun d : TxDesc => d.bytes.isSome && !d.sending && decide (lim ≤ d.wait)
     Completes .txto s fun t => t.net = { x with tx := x.tx.filter fun d => !late d } ∧
       t.get F.NET_ERRC_TXTO = min (s.get F.NET_ERRC_TXTO + (x.tx.filter late).length) 7 ∧ RegsKept [A.NET_ERRC] s t ∧ Keeps [.regs, .flips, .net] s t) ∧
    ∀ (n : Sector) (v : Word),
      let lost : Fld := ⟨A.NET_STAT, 10 + n, 10 + n⟩
      let frame (t : State) : Prop := RegsKept [A.NET_STAT] s t ∧ Keeps [.regs, .flips, .net] s t ∧ t.net.tx = x.tx ∧ t.net.rx = x.rx ∧
        t.get F.NET_STAT_LINK = link
      (Completes (.seqRestoreCommit n true v) s fun t => t.net.rxHigh[n] = x.rxStage[n].getD (x.rxHigh[n] / 65536) * 65536 + v.toNat % 65536 ∧
        t.net.rxSeen[n] = BitVec.allOnes 32 ∧ t.net.txSeq = x.txSeq ∧ t.net.rxStage[n] = none ∧ frame t ∧
        t.isSet lost = (s.isSet lost && !x.txRestored[n])) ∧
      (Completes (.seqRestoreCommit n true v) s fun t => ∀ q : Nat, q ≤ t.net.rxHigh[n] → t.fresh? n q = false) ∧
      Completes (.seqRestoreCommit n false v) s fun t =>
        t.net.txSeq[n] = x.txStage[n].getD (min x.txSeq[n] (2 ^ 32 - 1) / 65536) * 65536 + v.toNat % 65536 ∧ t.net.rxHigh = x.rxHigh ∧
        t.net.rxSeen = x.rxSeen ∧ t.net.txStage[n] = none ∧ frame t ∧ t.isSet lost = (s.isSet lost && !x.rxRestored[n])

/-- With the link UP and a receive buffer free a frame is judged by Table NET-4 in order: FCS, length, destination, EtherType, then VER,
KIND, DEV and zeros, NW and length, SEQLOST or an empty key slot, tag, freshness. The first that fails counts and, where the table has a
code, sets NVIO of the sector. A raw command that passes, for a RUNNING sector with permission and ring, waits with its sector, SEQ and
payload. With IPEN an ARP request for the own address and an echo request are answered by a device-generated frame. POP, with CORE ON,
releases the oldest ring entry of the sector that owns it. (15_field_network.md R350, R352, R358, R364, R365, R369, R370, R372, Tables NET-2, NET-4,
NET-7) -/
def Obligations.NetReceive : Prop :=
  ∀ (s : State) (f : List Byte), Memory.wf s = true →
    let x := s.net
    let b := f.take (f.length - 4)
    let e := splitFrame b
    let y := e.body
    let n : Sector := ⟨byteAt y 1 / 8 % 4, by omega⟩
    let nw := be16At y 2
    let q := beNat ((y.drop 4).take 4)
    let ipen := s.isSet F.NET_CTL_IPEN
    let hears := s.get F.NET_STAT_LINK = 3
    let room := x.rx.length < 8 ∧ (x.rx.map (·.blocks)).sum + 12 ≤ 64
    let fcs := f.drop (f.length - 4) = (beBytes 4 (crc32 b).toNat).reverse
    let size := 64 ≤ f.length ∧ f.length ≤ 1522 ∧ (1518 < f.length → e.tci ≠ none)
    let raw := e.dst = s.mac ∧ e.etype = s.get F.NET_ETYPE_ETYPE
    let headed := byteAt y 0 = 1 ∧ byteAt y 1 / 32 = 2 ∧ byteAt y 1 / 4 % 2 = 0 ∧ byteAt y 1 % 4 = 0
    let sized := 1 ≤ nw ∧ nw ≤ 60 ∧ 16 + 3 * nw ≤ y.length
    let tagged := (y.drop (8 + 3 * nw)).take 8 = s.netTag n (y.take (8 + 3 * nw))
    ∀ c ∈ [Instr.netFrameReceived f, Instr.arpRequest f, Instr.icmpEchoRequest f],
      let ignored : Prop := Completes c s fun t => t.net = x ∧ Keeps [.pwr] s t
      let drops (g : Fld) : Prop := Completes c s fun t => t.get g = min g.max (s.get g + 1) ∧ t.net = x ∧ RegsKept [g.addr] s t ∧ Keeps [.regs, .flips, .pwr] s t
      let violates (g : Fld) : Prop := Completes c s fun t => t.get g = min g.max (s.get g + 1) ∧ t.event n 19 = true ∧
        { t.net with logged := x.logged } = x ∧ RegsKept [g.addr, A.SEC_EVH n] s t ∧ Keeps [.regs, .flips, .pwr, .net, .mem] s t
      (¬hears → ignored) ∧
      (hears → ¬room → drops F.NET_ERRC_RXDROP) ∧
      (hears → room →
        (¬fcs → drops F.NET_ERRA_FCSE) ∧
        (fcs → ¬size → drops F.NET_ERRA_LENE) ∧
        (fcs → size →
          (e.dst ≠ s.mac → e.dst ≠ List.replicate 6 0xFF ∨ e.etype ≠ 0x0806 ∨ ipen = false → ignored) ∧
          (e.dst = s.mac → e.etype ≠ s.get F.NET_ETYPE_ETYPE → ipen = false ∨ e.etype ∉ [0x0800, 0x0806] → drops F.NET_ERRA_TYPE) ∧
          (raw → ¬headed → violates F.NET_ERRB_HDRE) ∧
          (raw → headed → ¬sized → violates F.NET_ERRB_HDRE) ∧
          (raw → headed → sized →
            (s.seqLost n = true ∨ s.keyMissing n = true → drops F.NET_ERRC_KEYX) ∧
            (s.seqLost n = false → s.keyMissing n = false →
              (s.tagged n = true → ¬tagged → violates F.NET_ERRB_TAGE) ∧
              (s.tagged n = false ∨ tagged →
                (s.fresh? n q = false → violates F.NET_ERRB_RPLE) ∧
                (s.fresh? n q = true → s.running n = true → s.secs[n].grant2.getLsbD 2 = true → s.ringInWindow n = true →
                  Completes c s fun t => (∃ r, t.net.rx = x.rx ++ [r] ∧ r.sec = n ∧ r.seq = q ∧ r.words = bytesWords ((y.drop 8).take (3 * nw)) ∧
                    r.ip = false ∧ r.mac = e.src ∧ r.blocks = blocksFor b.length ∧ r.done = 0) ∧ t.net.tx = x.tx ∧ t.regs = s.regs ∧
                    Keeps [.pwr, .net] s t)))) ∧
          (let replies (r : List Byte) : Prop := s.txRoom (blocksFor r.length) = true → Completes c s fun t => t.net.rx = x.rx ∧ t.regs = s.regs ∧
             Keeps [.pwr, .net] s t ∧ ∃ d, t.net.tx = x.tx ++ [d] ∧ d.bytes = some r ∧ d.dev = true ∧ d.sending = false ∧ d.blocks = blocksFor r.length
           ipen = true → e.etype ≠ s.get F.NET_ETYPE_ETYPE →
             (e.dst = s.mac ∨ e.dst = List.replicate 6 0xFF → s.arpForUs e = true →
               replies (s.ether ((y.drop 8).take 6) none 0x0806
                 ([0, 1, 8, 0, 6, 4, 0, 2] ++ s.mac ++ s.ownIp ++ (y.drop 8).take 6 ++ (y.drop 14).take 4))) ∧
             (e.dst = s.mac → e.etype = 0x0800 → s.ipOk y = true → icmpEcho y = true →
               let data := (ipPayload y).drop 4
               let icmp := [0, 0] ++ beBytes 2 (checksum ([0, 0, 0, 0] ++ data)) ++ data
               replies (s.ether s.gateway none 0x0800 (s.ipHeader 1 icmp.length x.ident ((y.drop 12).take 4) ++ icmp)))))) ∧
      ∀ (acc : Accessor) (m : Sector),
        (s.isOn .core = true → acc.sector = m → 0 < s.get (F.NET_RX_CNT m) → Completes (.netRxPop acc m) s fun t => t.get (F.NET_RX_CNT m) = s.get (F.NET_RX_CNT m) - 1 ∧
          t.get (F.NET_RX_HEAD m) = (s.get (F.NET_RX_HEAD m) + 1) % 4 ∧ t.get (F.NET_RX_DROP m) = s.get (F.NET_RX_DROP m) ∧
          RegsKept [A.SYS_KEY, A.NET_RX m] s t ∧ Keeps [.regs, .flips, .host] s t) ∧
        (acc.sector = m → s.get (F.NET_RX_CNT m) = 0 → Completes (.netRxPop acc m) s fun t => RegsKept [A.SYS_KEY] s t) ∧
        (acc.sector ≠ m → Completes (.netRxPop acc m) s fun t => RegsKept [A.SYS_KEY, A.SEQ_XST acc.sector] s t ∧ Keeps [.regs, .flips, .host] s t)

/-- With CORE ON, READ, PROG, ERASE, APPEND and RECENT of the sector named: without FLASH the write is refused, without lock 14 it counts;
else the first failing check of Table MEM-7 gives its code and event 24 (BUSY, one held already, arguments, rights), and a request that
passes is QUEUED. That a suspended erase counts among the two queued is the model's choice (notes/assumptions/89.md). A READ or RECENT at
the front suspends an erase whose array works. A SUSPECT page is FFh, and its erase counted, before a granule of it is programmed. A
programmed granule holds its bytes and no other byte changes; an erase step leaves its page FFh, then counts its erase; completion shows
DONE, the code and event 24. A log request is written at HEAD. MEM_OTPD, written with CORE ON, ORs its byte in when programmable, else sets
FAIL. (12_hamper_thermos_flash.md R280 to R282, R286 to R289, R293, Tables MEM-1, MEM-3, MEM-5 to MEM-8) -/
def Obligations.FlashOperations : Prop :=
  ∀ (s : State) (acc : Accessor) (n : Sector) (cm : BitVec 6), Memory.wf s = true → acc.sector = n →
    let m := s.mem
    let cnt := cm.toNat + 1
    let gran := s.get (F.FL_ADDR_GRAN n)
    let hofs := s.get (F.FL_HOFS_HOFS n)
    let held := m.factive.toList ++ m.fsusp.toList ++ m.fqueue
    let mine := ∃ o ∈ held, o.sec = n ∧ o.op < 6
    let journal := 64 ≤ gran / 256 ∧ gran / 256 < 120
    let full := 2 ≤ m.fsusp.toList.length + m.fqueue.length
    (s.isOn .core = true → ∀ r ∈ [(1, 8 * cnt, Instr.read acc n cm), (2, 8, Instr.prog acc n cm), (3, 0, Instr.erase acc n cm), (4, 10, Instr.append acc n cm),
        (5, 16, Instr.recent acc n cm)],
      let op := r.1
      let words := r.2.1
      let c := r.2.2
      let outside := words ≠ 0 ∧ 1024 * s.get (F.SEC_WIN_GLEN n) < hofs + words
      let allowed := op ∈ [4, 5] ∨ n = 0 ∧ (if op = 1 then gran + cnt ≤ 0x8000 else ¬journal)
      let refuses (code : Nat) : Prop := Completes c s fun t => t.get (F.FL_RES_CODE n) = code ∧ t.event n 24 = true ∧ t.mem = m ∧
        (mine → t.get (F.FL_RES_STATE n) = s.get (F.FL_RES_STATE n)) ∧ (¬mine → t.get (F.FL_RES_STATE n) = 3) ∧
        RegsKept [A.SYS_KEY, A.FL_RES n, A.SEC_EVH n] s t
      let o := flashOp op n gran hofs cnt []
      (s.hasUnit n 14 = false → Completes c s fun t => t.mem = m ∧ RegsKept [A.SYS_KEY, A.SEQ_XST n] s t) ∧
      (s.hasUnit n 14 = true → s.holds n 14 = false → Completes c s fun t => t.mem = m ∧ RegsKept [A.SYS_KEY, A.LOCK_NH] s t) ∧
      (s.hasUnit n 14 = true → s.holds n 14 = true →
        (full → refuses 1) ∧ (¬full → mine → refuses 2) ∧
        (¬full → ¬mine → (outside → refuses 3) ∧ (¬outside → ¬allowed → refuses 4) ∧
          (¬outside → allowed → (∀ f ∈ m.fqueue, f.op ≠ 10) ∨ m.factive ≠ none ∨ m.fsusp ≠ none → Completes c s fun t =>
            t.get (F.FL_RES_CODE n) = 0 ∧ RegsKept [A.SYS_KEY, A.FL_RES n] s t ∧ Keeps [.regs, .flips, .host, .mem] s t ∧
              t.mem = { m with fqueue := m.fqueue ++ [o] } ∧ t.get (F.FL_RES_STATE n) = 1)))) ∧
    (m.factive = none → (∀ ok, exec (.flashArrayStepDone ok) s = .next s) ∧ exec .flashOpComplete s = .next s ∧ exec .eraseSuspend s = .next s) ∧
    (m.fqueue = [] → exec .eraseSuspend s = .next s) ∧
    (∀ o, m.factive = some o →
      let erasing := (o.op = 3 ∨ o.op = 9 ∨ o.op = 7 ∧ o.moves = []) ∧ o.busy = true ∧ o.step = 0
      (∀ f q, m.fqueue = f :: q →
        (erasing → f.op = 1 ∨ f.op = 5 → Completes .eraseSuspend s fun t =>
          t.mem = { m with factive := none, fsusp := some { o with busy := false }, fwaits := true } ∧ Keeps [.mem] s t) ∧
        (¬erasing ∨ f.op ≠ 1 ∧ f.op ≠ 5 → exec .eraseSuspend s = .next s)) ∧
      (o.busy = false → ∀ ok, exec (.flashArrayStepDone ok) s = .next s) ∧
      (o.busy = true → o.erasing = true → o.op = 2 → s.eraseCount (o.gran / 256) < 0x3FFFF → Completes (.flashArrayStepDone true) s fun t =>
        t.mem.factive = some { o with busy := false, erasing := false, finished := false } ∧
          (∀ a, t.flashByte a = if a / 4096 = o.gran / 256 then 0xFF else s.flashByte a) ∧
          ∀ q, t.eraseCount q = if q = o.gran / 256 then s.eraseCount q + 1 else s.eraseCount q) ∧
      (o.busy = true → o.erasing = false → o.op = 2 → o.data.length = 16 → ∀ ok, Completes (.flashArrayStepDone ok) s fun t =>
        t.mem.factive = some { o with busy := false, finished := true, code := if ok then 0 else 6 } ∧ t.mem.wear = m.wear ∧
          (∀ a, a / 16 ≠ o.gran → t.flashByte a = s.flashByte a) ∧ (ok = true → ∀ a, a / 16 = o.gran → t.flashByte a = o.data.getD (a % 16) 0)) ∧
      (o.busy = true → o.erasing = false → o.op = 3 → let p := o.gran / 256
        (o.step = 0 → Completes (.flashArrayStepDone true) s fun t => t.mem.factive = some { o with step := 1 } ∧ t.mem.wear = m.wear ∧
          ∀ a, t.flashByte a = if a / 4096 = p then 0xFF else s.flashByte a) ∧
        (o.step ≠ 0 → s.eraseCount p < 0x3FFFF → Completes (.flashArrayStepDone true) s fun t =>
          t.mem.factive = some { o with busy := false, finished := true } ∧ t.mem.flash = m.flash ∧
            ∀ q, t.eraseCount q = if q = p then s.eraseCount p + 1 else s.eraseCount q)) ∧
      (o.finished = false → exec .flashOpComplete s = .next s) ∧
      (o.finished = true → o.op < 6 → m.fsusp = none → m.fqueue = [] → m.reclaims = [] → Completes .flashOpComplete s fun t =>
        t.get (F.FL_RES_STATE o.sec) = 3 ∧ t.event o.sec 24 = true ∧ (o.code < 16 → t.get (F.FL_RES_CODE o.sec) = o.code) ∧
          (o.op ≠ 4 ∨ s.get F.FL_JRNL_HEADREC < 127 → t.mem = { m with factive := none } ∧ RegsKept [A.FL_RES o.sec, A.SEC_EVH o.sec, A.FL_JRNL] s t ∧
            t.get F.FL_JRNL_HEADREC = s.get F.FL_JRNL_HEADREC + (if o.op = 4 then 1 else 0)))) ∧
    (m.logq = [] → exec .logEntryWrite s = .next s) ∧
    (∀ e rest, m.logq = e :: rest → let w := (s.thermosWord 0x40).toNat
      let head := w / 4096 % 32
      let a := 0x60 + 3 * head
      Completes .logEntryWrite s fun t => t.mem.logq = rest ∧ t.regs = s.regs ∧ t.thermosWord a = BitVec.ofNat 18 e.tick ∧
        t.thermosWord (a + 1) = BitVec.ofNat 18 (e.cls % 16 * 16384 + e.sec % 4 * 4096 + e.idx % 64 * 64 + e.code % 64) ∧
        t.thermosWord (a + 2) = e.detail ∧ t.thermosWord 0x41 = BitVec.ofNat 18 (e.tick / 2 ^ 18) ∧ t.thermosWord 0x42 = BitVec.ofNat 18 e.tick ∧
        (t.thermosWord 0x40).toNat / 4096 % 64 = (head + 1) % 32 ∧
        (t.thermosWord 0x40).toNat / 64 % 64 = (if w / 64 % 64 < 32 then w / 64 % 64 + 1 else w / 64 % 64) ∧
        ∀ b, b ∉ [a, a + 1, a + 2, 0x40, 0x41, 0x42] → t.thermosWord b = s.thermosWord b) ∧
    (∀ v : Word, let a := s.get F.MEM_OTPA_ADDR
      let shut := s.isSet F.MEM_OTPST_BUSY = true ∨ s.otpOpen a = false ∨ s.ldg.vsysLow = true
      (s.isOn .core = true → n = 0 → s.armed = true → Completes (.otpProgram acc v) s fun t => t.armed = false ∧ t.get F.MEM_OTPA_ADDR = (a + 1) % 2048 ∧
        RegsKept [A.SYS_KEY, A.MEM_OTPA, A.MEM_OTPST] s t ∧
        (shut → t.isSet F.MEM_OTPST_FAIL = true ∧ t.mem = m) ∧
        (¬shut → t.isSet F.MEM_OTPST_BUSY = true ∧ t.mem = { m with otpPend := some (a, v.setWidth 8) })) ∧
      (n ≠ 0 → Completes (.otpProgram acc v) s fun t => t.mem = m ∧ RegsKept [A.SYS_KEY, A.SEQ_XST n] s t)) ∧
    (m.otpPend = none → exec .otpProgramDone s = .next s) ∧
    ∀ a v, m.otpPend = some (a, v) → Completes .otpProgramDone s fun t => t.isSet F.MEM_OTPST_BUSY = false ∧ t.mem.otpPend = none ∧
      RegsKept [A.MEM_OTPST] s t ∧ ∀ b, t.otpByte b = if b = a then s.otpByte a ||| v else s.otpByte b

/-- A BOR (cause 02h, 03h with the regulator in LOW) or a PIN, WDG or SOFT reset (04h, 05h, 06h) recognised after boot began records its
cause, the previous one, the count and CLK_TICK in Thermos, advances the incarnation and restarts boot: BOR clears CLK_TICK, Hamper, the
domains and the sequence counters and puts registers at POR; the others keep Hamper, CLK_TICK, coefficients and sequence counters and put
registers at the PIN column. Flash and OTP stand, and no reclaim is lost. SYS_RST and SYS_BLOAD need CORE ON. The BOR detector of LOW mode,
RST# and the watchdog do nothing when their condition is absent. VSYS_LOSS keeps only flash, OTP and, if held, Thermos; AON_READY checks
Thermos and records POR. Boot samples the straps, applies the policy (a fault: POLF, HOSTNOLD), scans the journal, loads sector 0 from the
first slot that passes or waits for the host, and sets the first frame. SYS_BLOAD loads a guest. (06_clocks_and_power_domains.md R158,
12_hamper_thermos_flash.md R279, R283, R285, R292, 14_tangent_twin.md R329, 16_reset_and_boot.md R374 to R376, R378, R380 to R383, R385,
Tables RST-1 to RST-3, RST-7 to RST-9) -/
def Obligations.ResetsAndBoot : Prop :=
  ∀ (s : State) (acc : Accessor), Memory.wf s = true →
    let record (cause tick : Nat) (t : State) : Prop :=
      let w := (s.thermosWord 1).toNat
      t.thermosWord 1 = BitVec.ofNat 18 (min (w / 4096 % 64 + 1) 63 * 4096 + cause) ∧ t.thermosWord 2 = BitVec.ofNat 18 (w % 64) ∧
        t.thermosWord 3 = BitVec.ofNat 18 (tick / 2 ^ 18) ∧ t.thermosWord 4 = BitVec.ofNat 18 tick ∧
        t.incarnation = (if s.incarnation = 0x3FFFF then 1 else s.incarnation + 1)
    let quiet := s.mem.factive = none ∧ s.mem.fsusp = none ∧ s.mem.otpPend = none
    let restarts (cause : Nat) (t : State) : Prop := record cause s.tick t ∧ t.boot.phase = 0 ∧ t.boot.cause = cause ∧ t.boot.aon = s.boot.aon ∧
      (∀ n : Sector, t.stopped n = true ∧ t.events n = 0) ∧ (∀ k : Fin 16, t.lockHeld k = false) ∧ t.armed = false ∧ t.eng = {} ∧
      t.pwr.posts = [] ∧ t.host.state = 0 ∧ t.pending = s.pending ∧ t.word A.SCH_FRAME = 0x8000 ∧
      (quiet → t.mem.flash = s.mem.flash ∧ t.mem.otp = s.mem.otp) ∧
      ∀ p, p ∈ s.mem.reclaims ∨ (∃ o ∈ s.flashHeld, o.op = 7 ∧ o.gran / 256 = p) → p ∈ t.mem.reclaims
    let cold (cause : Nat) (c : Instr) : Prop := Completes c s fun t => restarts cause t ∧ t.tick = 0 ∧ t.mem.hamper = [] ∧
      (∀ d, (t.dom d).state = .off) ∧ t.word A.TW_CFG = regPor A.TW_CFG ∧ t.net.txSeq = Vector.replicate 4 0 ∧ t.net.rxHigh = Vector.replicate 4 0 ∧
      ∀ n : Sector, t.seqLost n = true
    let warm (cause : Nat) (c : Instr) : Prop := Completes c s fun t => restarts cause t ∧ t.tick = s.tick ∧ t.mem.hamper = s.mem.hamper ∧
      t.word A.TW_CFG = s.word A.TW_CFG ∧ t.net.txSeq = s.net.txSeq ∧ t.net.rxHigh = s.net.rxHigh ∧
      ∀ a, 0x200 ≤ a ∧ a < 0x400 ∨ 0x900 ≤ a → t.curveWord a = s.curveWord a
    (s.boot.phase ≠ 0 → cold 2 .bor ∧ (s.isSet F.PWR_REGCTL_MODE = false → cold 3 .borLowmode) ∧ (s.pins.vddio = true → warm 4 .pin) ∧
      (s.watchdogDone 0 = true → warm 5 .wdg) ∧ (acc.sector = 0 → s.armed = true → s.isOn .core = true → warm 6 (.soft acc))) ∧
    (s.boot.phase = 0 → s.boot.cause = 1 → exec .bor s = .next s ∧ exec .pin s = .next s) ∧
    (s.isSet F.PWR_REGCTL_MODE = true → exec .borLowmode s = .next s) ∧ (s.pins.vddio = false → exec .pin s = .next s) ∧
    (s.running 0 = false ∨ s.get (F.SEC_WDT_LIM 0) = 0 ∨ s.secs[(0 : Sector)].wdt < s.get (F.SEC_WDT_LIM 0) * 256 → exec .wdg s = .next s) ∧
    (acc.sector = 0 → s.armed = false → Completes (.soft acc) s fun t => RegsKept [A.SYS_KEYERR] s t ∧ t.boot = s.boot ∧ t.secs = s.secs) ∧
    (acc.sector ≠ 0 → Completes (.soft acc) s fun t => RegsKept [A.SYS_KEY, A.SEQ_XST acc.sector] s t ∧ t.boot = s.boot ∧ t.secs = s.secs) ∧
    (∀ held : Bool, Completes (.vsysLoss held) s fun t => t.boot = {} ∧ t.tick = 0 ∧ t.mem.hamper = [] ∧ t.pending = s.pending ∧
      (∀ d, (t.dom d).state = .off) ∧ (quiet → t.mem.flash = s.mem.flash ∧ t.mem.otp = s.mem.otp) ∧
      ∀ b, b ≠ 0x19 → t.thermosWord b = if held then s.thermosWord b else 0) ∧
    (s.boot.aon = true → exec .aonReady s = .next s) ∧
    (s.boot.aon = false → Completes .aonReady s fun t => t.boot.aon = true ∧ t.boot.cause = 1 ∧
      (s.thermosWord 0 = 0x2D5A3 → record 1 0 t ∧ t.regs = s.regs ∧ ∀ b, b ∉ [1, 2, 3, 4, 0x18] → t.thermosWord b = s.thermosWord b) ∧
      (s.thermosWord 0 ≠ 0x2D5A3 → t.thermosWord 0 = 0x2D5A3 ∧ t.thermosWord 1 = 0x1001 ∧ t.incarnation = 1 ∧ t.regs = [] ∧
        ∀ b, b ∉ [0, 1, 0x18] → t.thermosWord b = 0)) ∧
    (s.boot.phase ≠ 0 ∨ s.boot.aon = false ∨ s.boot.held = true → ∀ b e, exec (.strapSample b e) s = .next s) ∧
    (s.boot.phase = 0 → s.boot.aon = true → s.boot.held = false → ∀ b : Bool,
      exec (.strapSample b true) s = .next { s with boot := { s.boot with held := true } } ∧
        Completes (.strapSample b false) s fun t => t.boot = { s.boot with phase := 2 } ∧ t.isSet F.SYS_BOOT_BOOTPIN = b) ∧
    (s.boot.phase ≠ 2 ∨ s.isOn .core = false → exec .policyRead s = .next s) ∧
    (s.boot.phase = 2 → s.isOn .core = true →
      let b (k : Nat) : Byte := s.otpByte (0x50 + k)
      let sound := (∀ k < 16, b k = 0) ∨ ∀ k < 8, b k ^^^ b (k + 8) = 0xFF
      (sound → Completes .policyRead s fun t => t.boot.phase = 4 ∧ t.boot.policy.cmacreq = (b 0).toNat % 16 ∧ t.boot.policy.ksel = (b 1).toNat ∧
        t.boot.policy.slotord = (b 2).toNat % 4 ∧ (t.boot.policy.hostnold = (b 2).getLsbD 2) ∧ (t.boot.policy.otplock = (b 2).getLsbD 4) ∧
        t.get (F.SEC_WDT_LIM 0) = (b 3).toNat * 16 + (b 4).toNat / 16 ∧ RegsKept [A.SEC_WDT 0] s t) ∧
      (¬sound → Completes .policyRead s fun t => t.boot.phase = 4 ∧ t.isSet F.FL_STAT_POLF = true ∧ t.boot.policy.cmacreq = 15 ∧
        t.boot.policy.hostnold = true ∧ t.get (F.SEC_WDT_LIM 0) = 0)) ∧
    (s.boot.phase ≠ 4 → exec .journalScan s = .next s) ∧
    (s.boot.phase = 4 → s.mem.infoBad = [] → Completes .journalScan s fun t => t.boot.phase = 5 ∧ t.mem.flash = s.mem.flash ∧
      (s.journal = [] → t.get F.FL_JRNL_HEADPG = 64 ∧ t.get F.FL_JRNL_HEADREC = 0 ∧ t.mem.jseq = 1) ∧
      ∀ r, largest (fun r => recordSeq r.2) s.journal = some r → t.mem.jseq = recordSeq r.2 + 1 ∧
        (r.1 / 32 % 128 < 127 → t.get F.FL_JRNL_HEADPG = r.1 / 4096 ∧ t.get F.FL_JRNL_HEADREC = r.1 / 32 % 128 + 1)) ∧
    (s.boot.phase ≠ 5 → exec .bootSlotLoad s = .next s ∧ exec .bootStart s = .next s) ∧
    (s.boot.phase = 5 →
      let strap := s.isSet F.SYS_BOOT_BOOTPIN
      (strap = true → s.boot.policy.hostnold = false → Completes .bootSlotLoad s fun t => t.isSet F.SYS_BOOT_HOSTBOOT = true ∧
        RegsKept [A.SYS_BOOT] s t ∧ Keeps [.regs, .flips] s t) ∧
      (strap = false → ∀ k rest, slotOrder s.boot.policy.slotord = k :: rest →
        let u := s.loadSlot k 0
        let code := u.get F.SCH_LDST_CODE
        (code = 0 → Completes .bootSlotLoad s fun t => t.get F.SYS_BOOT_SLOT = k ∧ t.eng = u.eng ∧ t.secs = u.secs) ∧
        (code ≠ 0 → rest = [] → Completes .bootSlotLoad s fun t => t.isSet F.SYS_BOOT_BOOTF = true ∧ t.isSet F.SYS_BOOT_FALLBK = true ∧
          t.get F.SYS_BOOT_FCODE = code ∧ t.word (A.SEC_WIN 0) = regPor (A.SEC_WIN 0)) ∧
        (∀ j, code ≠ 0 → rest = [j] → ((u.setFlag F.SYS_BOOT_FALLBK).put F.SYS_BOOT_FCODE code |>.loadSlot j 0).get F.SCH_LDST_CODE = 0 →
          Completes .bootSlotLoad s fun t => t.get F.SYS_BOOT_SLOT = j ∧ t.isSet F.SYS_BOOT_FALLBK = true ∧ t.get F.SYS_BOOT_FCODE = code)) ∧
      Completes .bootStart s fun t => t.boot.phase = 6 ∧ t.sch.syncAt = some (tickAfter s.tick 3) ∧ t.secs = s.secs) ∧
    (s.isOn .core = true → acc.sector = 0 → s.armed = true → s.boot.guest = none → s.isSet F.SYS_BLOAD_BUSY = false → ∀ v : Word,
      let slot := v.toNat / 2 ^ 15 % 4
      let n : Sector := ⟨v.toNat / 2 ^ 13 % 4, by omega⟩
      let u := (s.disarm.setFlag F.SYS_BLOAD_BUSY).loadSlot slot n
      (v.getLsbD 17 = false → Completes (.guestLoad acc v) s fun t => RegsKept [A.SYS_KEY] s t ∧ t.boot = s.boot) ∧
      (v.getLsbD 17 = true → slot ∈ [1, 2] → Completes (.guestLoad acc v) s fun t => t.isSet F.SYS_BLOAD_BUSY = false ∧ t.boot = s.boot ∧
        t.get F.SCH_LDST_SECT = n.val ∧ t.get F.SCH_LDST_CODE = u.get F.SCH_LDST_CODE ∧ t.eng = u.eng ∧ t.secs = u.secs ∧
        (s.dirEntry slot n = none → t.get F.SCH_LDST_CODE = 0x20 ∧ t.secs = s.secs)))

/-- With CORE ON a write of PIN_GPg by a sector granted the pin takes EDGE, PULL and OUTV; one that changes FUNC starts a parked phase with
the keeper at the pin's level before the write, one that runs is not restarted; its end puts the function last written in force. Without the
grant the write is refused. A new recognised level shows in IN and GPL; an edge that EDGE selects on an unparked pin in function IN sets
event 27 in the sectors granted the pin, one of WEDGE's polarity event 26 in those granted WAKE. VDDIO's fall leaves every latched function
and level, and its return resumes them. (17_pins_and_package.md R394, R397, R399, R400, Tables PIN-6, PIN-7) -/
def Obligations.Pins : Prop :=
  ∀ (s : State) (g : Fin 8) (level : Bool), Memory.wf s = true →
    let fn := s.get (F.PIN_GP_FUNC g)
    let parked := s.isSet (F.PIN_GP_PARK g)
    let rises (e : Nat) : Prop := if level then e % 2 = 1 else 2 ≤ e
    (∀ (acc : Accessor) (v : Word),
      let new := v.toNat % 4
      (s.isOn .core = true → s.hasGp acc.sector g = true → Completes (.gpFuncWrite acc g v) s fun t => t.armed = false ∧ t.get (F.PIN_GP_FUNC g) = new ∧
        t.get (F.PIN_GP_EDGE g) = v.toNat / 2 ^ 16 ∧ t.get (F.PIN_GP_PULL g) = v.toNat / 2 ^ 14 % 4 ∧ t.isSet (F.PIN_GP_OUTV g) = v.getLsbD 13 ∧
        t.isSet (F.PIN_GP_IN g) = s.isSet (F.PIN_GP_IN g) ∧ t.isSet (F.PIN_GP_PARK g) = (parked || decide (new ≠ fn)) ∧
        t.pins = { s.pins with gpKeep := if new ≠ fn ∧ parked = false then s.pins.gpKeep.set g (s.padLevel g) else s.pins.gpKeep } ∧
        RegsKept [A.SYS_KEY, A.PIN_GP g] s t ∧ Keeps [.regs, .flips, .host, .pins] s t) ∧
      (s.hasGp acc.sector g = false → Completes (.gpFuncWrite acc g v) s fun t => t.pins = s.pins ∧ RegsKept [A.SYS_KEY, A.SEQ_XST acc.sector] s t)) ∧
    (parked = true → Completes (.gpParkEnd g) s fun t => t.pins = { s.pins with gpFunc := s.pins.gpFunc.set g fn } ∧
      t.isSet (F.PIN_GP_PARK g) = false ∧ t.get (F.PIN_GP_FUNC g) = fn ∧ RegsKept [A.PIN_GP g] s t ∧ Keeps [.regs, .flips, .pins] s t) ∧
    (parked = false → exec (.gpParkEnd g) s = .next s) ∧
    (s.isSet (F.PIN_GP_IN g) = level → exec (.gpEdge g level) s = .next s) ∧
    (s.isSet (F.PIN_GP_IN g) = !level →
      let counts := s.pins.gpFunc[g] = 0 ∧ parked = false ∧ rises (s.get (F.PIN_GP_EDGE g))
      (counts → Completes (.gpEdge g level) s fun t => t.isSet (F.PIN_GP_IN g) = level ∧ t.pins = s.pins ∧
        ∀ n : Sector, t.event n 27 = (s.event n 27 || s.hasGp n g)) ∧
      (¬counts → Completes (.gpEdge g level) s fun t => t.isSet (F.PIN_GP_IN g) = level ∧
        t.get F.PIN_STAT_GPL / 2 ^ g.val % 2 = bit level ∧ RegsKept [A.PIN_GP g, A.PIN_STAT] s t ∧ Keeps [.regs, .flips] s t)) ∧
    (s.isSet F.PIN_STAT_WAKEL = level → exec (.wakePinEdge level) s = .next s) ∧
    (s.isSet F.PIN_STAT_WAKEL = !level →
      let w := s.get F.PIN_CFG_WEDGE
      let counts := w = 2 ∨ (if level then w = 1 else w = 0 ∨ w = 3)
      (counts → Completes (.wakePinEdge level) s fun t => t.isSet F.PIN_STAT_WAKEL = level ∧
        ∀ n : Sector, t.event n 26 = (s.event n 26 || s.secs[n].grant2.getLsbD 4)) ∧
      (¬counts → Completes (.wakePinEdge level) s fun t => t.isSet F.PIN_STAT_WAKEL = level ∧ RegsKept [A.PIN_STAT] s t ∧ Keeps [.regs, .flips] s t)) ∧
    exec .vddioLoss s = .next { s with pins := { s.pins with vddio := false } } ∧
    exec .vddioResume s = .next { s with pins := { s.pins with vddio := true } }
end

