-- ==== Sys2Proof/Laws/Store.lean ====
section
/-! SUPPORT. Laws of the sparse memories: a read after a write, and the canonical form kept by every operation. -/

namespace Sys2Proof.Machine

variable {α : Type} [DecidableEq α] {dflt : Nat → α}

theorem storeRead_cell_append (m : List (Nat × α)) (a b : Nat) (v : α) (h : b = a → storeRead dflt m a = dflt a) :
    storeRead dflt (storeCell dflt a v ++ m) b = if b = a then v else storeRead dflt m b := by
  unfold storeCell
  split
  · next hv =>
    subst hv
    split
    · next e => subst e; simpa using h rfl
    · simp
  · simp [storeRead]

theorem storeRead_below {lo : Nat} {m : List (Nat × α)} (h : storeWfFrom dflt lo m = true) {a : Nat} (ha : a < lo) :
    storeRead dflt m a = dflt a := by
  induction m generalizing lo with
  | nil => rfl
  | cons c m ih =>
    obtain ⟨k, v⟩ := c
    simp only [storeWfFrom, Bool.and_eq_true, decide_eq_true_eq] at h
    simp only [storeRead]
    rw [if_neg (by omega)]
    exact ih h.2 (by omega)

theorem storeWfFrom_weaken {lo lo' : Nat} (hl : lo' ≤ lo) {m : List (Nat × α)} (h : storeWfFrom dflt lo m = true) :
    storeWfFrom dflt lo' m = true := by
  cases m with
  | nil => rfl
  | cons c m =>
    obtain ⟨k, v⟩ := c
    simp only [storeWfFrom, Bool.and_eq_true, decide_eq_true_eq] at h ⊢
    exact ⟨⟨by omega, h.1.2⟩, h.2⟩

/-- A read after a write gives the value written at its address and what was there elsewhere. -/
theorem storeRead_storeWrite_from {lo : Nat} {m : List (Nat × α)} (h : storeWfFrom dflt lo m = true) (a b : Nat) (v : α) :
    storeRead dflt (storeWrite dflt m a v) b = if b = a then v else storeRead dflt m b := by
  induction m generalizing lo with
  | nil =>
    have := storeRead_cell_append (dflt := dflt) [] a b v (fun _ => rfl)
    simpa [storeWrite] using this
  | cons c m ih =>
    obtain ⟨k, x⟩ := c
    have h' := h
    simp only [storeWfFrom, Bool.and_eq_true, decide_eq_true_eq] at h'
    simp only [storeWrite]
    split
    · next hk =>
      apply storeRead_cell_append
      intro _
      simp only [storeRead]
      rw [if_neg (by omega)]
      exact storeRead_below h'.2 (by omega)
    · split
      · next hk =>
        subst hk
        rw [storeRead_cell_append _ _ _ _ (fun _ => storeRead_below h'.2 (by omega))]
        split
        · rfl
        · next hb => simp [storeRead, hb]
      · next h1 h2 =>
        simp only [storeRead, ih h'.2]
        split
        · next e => subst e; rw [if_neg (fun e => h2 e.symm)]
        · rfl

theorem storeRead_storeWrite {m : List (Nat × α)} (h : storeWf dflt m = true) (a b : Nat) (v : α) :
    storeRead dflt (storeWrite dflt m a v) b = if b = a then v else storeRead dflt m b :=
  storeRead_storeWrite_from h a b v

theorem storeWfFrom_cell {lo : Nat} {m : List (Nat × α)} {a : Nat} (hl : lo ≤ a) (h : storeWfFrom dflt (a + 1) m = true) (v : α) :
    storeWfFrom dflt lo (storeCell dflt a v ++ m) = true := by
  unfold storeCell
  split
  · simpa using storeWfFrom_weaken (by omega) h
  · next hv => simp [storeWfFrom, hl, hv, h]

/-- A write keeps the canonical form. -/
theorem storeWfFrom_storeWrite {lo : Nat} {m : List (Nat × α)} (h : storeWfFrom dflt lo m = true) {a : Nat} (hl : lo ≤ a) (v : α) :
    storeWfFrom dflt lo (storeWrite dflt m a v) = true := by
  induction m generalizing lo with
  | nil => simpa [storeWrite] using storeWfFrom_cell (m := []) hl rfl v
  | cons c m ih =>
    obtain ⟨k, x⟩ := c
    have h' := h
    simp only [storeWfFrom, Bool.and_eq_true, decide_eq_true_eq] at h'
    simp only [storeWrite]
    split
    · next hk =>
      apply storeWfFrom_cell hl
      simp only [storeWfFrom, Bool.and_eq_true, decide_eq_true_eq]
      exact ⟨⟨by omega, h'.1.2⟩, h'.2⟩
    · split
      · next hk => subst hk; exact storeWfFrom_cell hl h'.2 v
      · next h1 h2 =>
        simp only [storeWfFrom, Bool.and_eq_true, decide_eq_true_eq]
        exact ⟨⟨h'.1.1, h'.1.2⟩, ih h'.2 (by omega)⟩

theorem storeWf_storeWrite {m : List (Nat × α)} (h : storeWf dflt m = true) (a : Nat) (v : α) :
    storeWf dflt (storeWrite dflt m a v) = true := storeWfFrom_storeWrite h (Nat.zero_le a) v

theorem storeWf_storeWriteRun {m : List (Nat × α)} (h : storeWf dflt m = true) (a : Nat) (vs : List α) :
    storeWf dflt (storeWriteRun dflt m a vs) = true := by
  induction vs generalizing m a with
  | nil => exact h
  | cons v vs ih => exact ih (storeWf_storeWrite h a v) (a + 1)

theorem storeWfFrom_filter {lo : Nat} {m : List (Nat × α)} (h : storeWfFrom dflt lo m = true) (p : Nat × α → Bool) :
    storeWfFrom dflt lo (m.filter p) = true := by
  induction m generalizing lo with
  | nil => rfl
  | cons c m ih =>
    obtain ⟨k, v⟩ := c
    have h' := h
    simp only [storeWfFrom, Bool.and_eq_true, decide_eq_true_eq] at h'
    rw [List.filter_cons]
    split
    · simp only [storeWfFrom, Bool.and_eq_true, decide_eq_true_eq]
      exact ⟨⟨h'.1.1, h'.1.2⟩, ih h'.2⟩
    · exact storeWfFrom_weaken (by omega) (ih h'.2)

/-- Dropping entries keeps the canonical form. -/
theorem storeWf_filter {m : List (Nat × α)} (h : storeWf dflt m = true) (p : Nat × α → Bool) : storeWf dflt (m.filter p) = true :=
  storeWfFrom_filter h p

theorem storeRead_filter_from {lo : Nat} {m : List (Nat × α)} (h : storeWfFrom dflt lo m = true) (p : Nat → Bool) (a : Nat) :
    storeRead dflt (m.filter fun c => p c.1) a = if p a then storeRead dflt m a else dflt a := by
  induction m generalizing lo with
  | nil => simp [storeRead]
  | cons c m ih =>
    obtain ⟨k, v⟩ := c
    have h' := h
    simp only [storeWfFrom, Bool.and_eq_true, decide_eq_true_eq] at h'
    rw [List.filter_cons]
    by_cases hk : p k
    · simp only [hk, if_true, storeRead, ih h'.2]
      by_cases e : a = k
      · subst e; simp [hk]
      · simp [e]
    · simp only [hk, Bool.false_eq_true, if_false, ih h'.2, storeRead]
      by_cases e : a = k
      · subst e; simp [hk]
      · simp [e]

/-- Dropping addresses makes them read as unlisted ones do. -/
theorem storeRead_filter {m : List (Nat × α)} (h : storeWf dflt m = true) (p : Nat → Bool) (a : Nat) :
    storeRead dflt (m.filter fun c => p c.1) a = if p a then storeRead dflt m a else dflt a := storeRead_filter_from h p a

end Sys2Proof.Machine
end

