-- ==== Sys2Proof/Laws/Fields.lean ====
section
/-! SUPPORT. Laws of register fields: what a field and a word read after a write. -/

namespace Sys2Proof.Machine

/-- A field that lies in an 18-bit word. -/
def Fld.fits (f : Fld) : Bool := decide (f.lo ≤ f.hi ∧ f.hi < 18)

theorem Fld.testBit_max (f : Fld) (i : Nat) : f.max.testBit i = decide (i < f.width) := by
  simp [Fld.max, Nat.testBit_two_pow_sub_one]

/-- Bit `i` of a word whose bits from `lo` on are those of `v`, cut to the field. -/
theorem Fld.bit_in (f : Fld) (h : f.fits = true) (i : Nat) (b : Bool) :
    (decide (i < 18) && (decide (i ≥ f.lo) && (decide (i - f.lo < f.width) && b))) = (decide (f.lo ≤ i ∧ i ≤ f.hi) && b) := by
  simp only [Fld.fits, decide_eq_true_eq] at h
  by_cases h1 : f.lo ≤ i
  · have e : (i - f.lo < f.width) = (i ≤ f.hi) := by simp only [Fld.width, eq_iff_iff]; omega
    by_cases h2 : i ≤ f.hi
    · have : i < 18 := by omega
      simp [h1, h2, e, this]
    · simp [h1, h2, e]
  · simp [h1]

theorem Fld.getLsbD_mask (f : Fld) (h : f.fits = true) (i : Nat) : f.mask.getLsbD i = decide (f.lo ≤ i ∧ i ≤ f.hi) := by
  have := Fld.bit_in f h i true
  simpa only [Fld.mask, BitVec.getLsbD_ofNat, Nat.testBit_mul_two_pow, Fld.testBit_max, Bool.and_true] using this

theorem Fld.testBit_of (f : Fld) (w : Word) (i : Nat) : (f.of w).testBit i = (decide (i < f.width) && w.getLsbD (f.lo + i)) := by
  simp only [Fld.of, Nat.testBit_mod_two_pow, Nat.testBit_div_two_pow, BitVec.testBit_toNat]
  rw [Nat.add_comm]

theorem Fld.getLsbD_into_zero (f : Fld) (v i : Nat) (h : f.fits = true) :
    (f.into 0 v).getLsbD i = (decide (f.lo ≤ i ∧ i ≤ f.hi) && v.testBit (i - f.lo)) := by
  have e0 : f.into 0 v = BitVec.ofNat 18 (v % 2 ^ f.width * 2 ^ f.lo) := by simp [Fld.into]
  rw [e0, BitVec.getLsbD_ofNat, Nat.testBit_mul_two_pow, Nat.testBit_mod_two_pow]
  exact Fld.bit_in f h i _

/-- The field of a word in which it has been replaced. -/
theorem Fld.of_merge_self (f : Fld) (h : f.fits = true) (w : Word) (v : Nat) :
    f.of ((w &&& ~~~ f.mask) ||| (f.into 0 v &&& f.mask)) = v % 2 ^ f.width := by
  apply Nat.eq_of_testBit_eq
  intro i
  have h' := h
  simp only [Fld.fits, decide_eq_true_eq] at h'
  rw [Fld.testBit_of, Nat.testBit_mod_two_pow]
  by_cases hi : i < f.width
  · have e1 : f.lo ≤ f.lo + i := by omega
    have e2 : f.lo + i ≤ f.hi := by simp only [Fld.width] at hi; omega
    have e3 : f.lo + i < 18 := by omega
    have e4 : f.lo + i - f.lo = i := by omega
    rw [BitVec.getLsbD_or, BitVec.getLsbD_and, BitVec.getLsbD_and, BitVec.getLsbD_not, Fld.getLsbD_mask f h, Fld.getLsbD_into_zero f v _ h,
      e4]
    simp [hi, e1, e2]
  · simp [hi]

/-- Two fields that share no bit. -/
def Fld.apart (f g : Fld) : Bool := decide (f.hi < g.lo ∨ g.hi < f.lo)

theorem Fld.of_merge_apart (f g : Fld) (hf : f.fits = true) (hg : g.fits = true) (d : f.apart g = true) (w x : Word) :
    g.of ((w &&& ~~~ f.mask) ||| (x &&& f.mask)) = g.of w := by
  apply Nat.eq_of_testBit_eq
  intro i
  simp only [Fld.testBit_of]
  by_cases hi : i < g.width
  · simp only [Fld.fits, Fld.apart, decide_eq_true_eq] at hf hg d
    have e3 : g.lo + i < 18 := by simp only [Fld.width] at hi; omega
    have e : decide (f.lo ≤ g.lo + i ∧ g.lo + i ≤ f.hi) = false := by simp only [Fld.width] at hi; simp; omega
    have e' := Fld.getLsbD_mask f (by simp only [Fld.fits, decide_eq_true_eq]; exact hf) (g.lo + i)
    simp only [BitVec.getLsbD_or, BitVec.getLsbD_and, BitVec.getLsbD_not, e', e, e3]
    simp
  · simp [hi]

/-! ## Words -/

theorem State.word_setBits {s : State} (h : storeWf regPor s.regs = true) (a b : Nat) (m v : Word) :
    (s.setBits a m v).word b = if b = a then (s.word a &&& ~~~ m) ||| (v &&& m) else s.word b :=
  storeRead_storeWrite h a b _

theorem State.regs_wf_setBits {s : State} (h : storeWf regPor s.regs = true) (a : Nat) (m v : Word) :
    storeWf regPor (s.setBits a m v).regs = true := storeWf_storeWrite h a _

theorem State.regs_wf_put {s : State} (h : storeWf regPor s.regs = true) (f : Fld) (v : Nat) :
    storeWf regPor (s.put f v).regs = true := State.regs_wf_setBits h _ _ _

theorem State.regs_wf_setWord {s : State} (h : storeWf regPor s.regs = true) (a : Nat) (v : Word) :
    storeWf regPor (s.setWord a v).regs = true := State.regs_wf_setBits h _ _ _

theorem State.regs_wf_bump {s : State} (h : storeWf regPor s.regs = true) (f : Fld) :
    storeWf regPor (s.bump f).regs = true := State.regs_wf_put h _ _

theorem State.regs_wf_setFlag {s : State} (h : storeWf regPor s.regs = true) (f : Fld) :
    storeWf regPor (s.setFlag f).regs = true := State.regs_wf_put h _ _

/-! ## Fields -/

theorem State.get_put_self {s : State} (h : storeWf regPor s.regs = true) (f : Fld) (hf : f.fits = true) (v : Nat) :
    (s.put f v).get f = v % 2 ^ f.width := by
  simp only [State.get, State.put, State.word_setBits h, if_true]
  exact Fld.of_merge_self f hf _ v

theorem State.get_put_addr {s : State} (h : storeWf regPor s.regs = true) (f g : Fld) (d : g.addr ≠ f.addr) (v : Nat) :
    (s.put f v).get g = s.get g := by
  simp only [State.get, State.put, State.word_setBits h, if_neg d]

theorem State.get_put_apart {s : State} (h : storeWf regPor s.regs = true) (f g : Fld) (hf : f.fits = true) (hg : g.fits = true)
    (d : f.apart g = true) (v : Nat) : (s.put f v).get g = s.get g := by
  by_cases e : g.addr = f.addr
  · simp only [State.get, State.put, State.word_setBits h, if_pos e]
    rw [← e]; exact Fld.of_merge_apart f g hf hg d _ _
  · exact State.get_put_addr h f g e v

theorem State.get_setFlag_self {s : State} (h : storeWf regPor s.regs = true) (f : Fld) (hf : f.fits = true) :
    (s.setFlag f).get f = f.max := by
  rw [State.setFlag, State.get_put_self h f hf, Nat.mod_eq_of_lt]
  have : 0 < 2 ^ f.width := Nat.two_pow_pos _
  simp only [Fld.max]; omega

theorem State.get_lt {s : State} (f : Fld) : s.get f < 2 ^ f.width := Nat.mod_lt _ (Nat.two_pow_pos _)

/-- A counter counts up, and stays at its largest value. -/
theorem State.get_bump_self {s : State} (h : storeWf regPor s.regs = true) (f : Fld) (hf : f.fits = true) :
    (s.bump f).get f = Nat.min (s.get f + 1) f.max := by
  rw [State.bump, State.get_put_self h f hf, Nat.mod_eq_of_lt]
  have h1 : 0 < 2 ^ f.width := Nat.two_pow_pos _
  have h2 : Nat.min (s.get f + 1) f.max ≤ f.max := Nat.min_le_right _ _
  simp only [Fld.max] at h2 ⊢; omega

theorem State.isSet_setFlag_self {s : State} (h : storeWf regPor s.regs = true) (f : Fld) (hf : f.fits = true) :
    (s.setFlag f).isSet f = true := by
  simp only [State.isSet, State.get_setFlag_self h f hf, decide_eq_true_eq, Fld.max]
  simp only [Fld.fits, decide_eq_true_eq] at hf
  have : 2 ^ 1 ≤ 2 ^ f.width := Nat.pow_le_pow_right (by omega) (by simp only [Fld.width]; omega)
  omega

end Sys2Proof.Machine
end

