-- ==== Sys2Proof/Laws/State.lean ====
section
/-! SUPPORT. One lemma for each field of State and each named update of it: what the update leaves alone. -/

namespace Sys2Proof.Machine

/-! ## setBits -/

@[simp] theorem State.setBits_pending (s : State) (a : Nat) (m v : Word) : (s.setBits a m v).pending = s.pending := rfl
@[simp] theorem State.setBits_stale (s : State) (a : Nat) (m v : Word) : (s.setBits a m v).stale = s.stale := rfl
@[simp] theorem State.setBits_tick (s : State) (a : Nat) (m v : Word) : (s.setBits a m v).tick = s.tick := rfl
@[simp] theorem State.setBits_eng (s : State) (a : Nat) (m v : Word) : (s.setBits a m v).eng = s.eng := rfl
@[simp] theorem State.setBits_sch (s : State) (a : Nat) (m v : Word) : (s.setBits a m v).sch = s.sch := rfl
@[simp] theorem State.setBits_secs (s : State) (a : Nat) (m v : Word) : (s.setBits a m v).secs = s.secs := rfl
@[simp] theorem State.setBits_locks (s : State) (a : Nat) (m v : Word) : (s.setBits a m v).locks = s.locks := rfl
@[simp] theorem State.setBits_pwr (s : State) (a : Nat) (m v : Word) : (s.setBits a m v).pwr = s.pwr := rfl
@[simp] theorem State.setBits_mem (s : State) (a : Nat) (m v : Word) : (s.setBits a m v).mem = s.mem := rfl
@[simp] theorem State.setBits_tw (s : State) (a : Nat) (m v : Word) : (s.setBits a m v).tw = s.tw := rfl
@[simp] theorem State.setBits_net (s : State) (a : Nat) (m v : Word) : (s.setBits a m v).net = s.net := rfl
@[simp] theorem State.setBits_ldg (s : State) (a : Nat) (m v : Word) : (s.setBits a m v).ldg = s.ldg := rfl
@[simp] theorem State.setBits_lanes (s : State) (a : Nat) (m v : Word) : (s.setBits a m v).lanes = s.lanes := rfl
@[simp] theorem State.setBits_afe (s : State) (a : Nat) (m v : Word) : (s.setBits a m v).afe = s.afe := rfl
@[simp] theorem State.setBits_cal (s : State) (a : Nat) (m v : Word) : (s.setBits a m v).cal = s.cal := rfl
@[simp] theorem State.setBits_out (s : State) (a : Nat) (m v : Word) : (s.setBits a m v).out = s.out := rfl
@[simp] theorem State.setBits_boot (s : State) (a : Nat) (m v : Word) : (s.setBits a m v).boot = s.boot := rfl
@[simp] theorem State.setBits_pins (s : State) (a : Nat) (m v : Word) : (s.setBits a m v).pins = s.pins := rfl
@[simp] theorem State.setBits_host (s : State) (a : Nat) (m v : Word) : (s.setBits a m v).host = s.host := rfl
@[simp] theorem State.setBits_free (s : State) (a : Nat) (m v : Word) : (s.setBits a m v).free = s.free := rfl

/-! ## setWord -/

@[simp] theorem State.setWord_pending (s : State) (a : Nat) (v : Word) : (s.setWord a v).pending = s.pending := rfl
@[simp] theorem State.setWord_stale (s : State) (a : Nat) (v : Word) : (s.setWord a v).stale = s.stale := rfl
@[simp] theorem State.setWord_tick (s : State) (a : Nat) (v : Word) : (s.setWord a v).tick = s.tick := rfl
@[simp] theorem State.setWord_eng (s : State) (a : Nat) (v : Word) : (s.setWord a v).eng = s.eng := rfl
@[simp] theorem State.setWord_sch (s : State) (a : Nat) (v : Word) : (s.setWord a v).sch = s.sch := rfl
@[simp] theorem State.setWord_secs (s : State) (a : Nat) (v : Word) : (s.setWord a v).secs = s.secs := rfl
@[simp] theorem State.setWord_locks (s : State) (a : Nat) (v : Word) : (s.setWord a v).locks = s.locks := rfl
@[simp] theorem State.setWord_pwr (s : State) (a : Nat) (v : Word) : (s.setWord a v).pwr = s.pwr := rfl
@[simp] theorem State.setWord_mem (s : State) (a : Nat) (v : Word) : (s.setWord a v).mem = s.mem := rfl
@[simp] theorem State.setWord_tw (s : State) (a : Nat) (v : Word) : (s.setWord a v).tw = s.tw := rfl
@[simp] theorem State.setWord_net (s : State) (a : Nat) (v : Word) : (s.setWord a v).net = s.net := rfl
@[simp] theorem State.setWord_ldg (s : State) (a : Nat) (v : Word) : (s.setWord a v).ldg = s.ldg := rfl
@[simp] theorem State.setWord_lanes (s : State) (a : Nat) (v : Word) : (s.setWord a v).lanes = s.lanes := rfl
@[simp] theorem State.setWord_afe (s : State) (a : Nat) (v : Word) : (s.setWord a v).afe = s.afe := rfl
@[simp] theorem State.setWord_cal (s : State) (a : Nat) (v : Word) : (s.setWord a v).cal = s.cal := rfl
@[simp] theorem State.setWord_out (s : State) (a : Nat) (v : Word) : (s.setWord a v).out = s.out := rfl
@[simp] theorem State.setWord_boot (s : State) (a : Nat) (v : Word) : (s.setWord a v).boot = s.boot := rfl
@[simp] theorem State.setWord_pins (s : State) (a : Nat) (v : Word) : (s.setWord a v).pins = s.pins := rfl
@[simp] theorem State.setWord_host (s : State) (a : Nat) (v : Word) : (s.setWord a v).host = s.host := rfl
@[simp] theorem State.setWord_free (s : State) (a : Nat) (v : Word) : (s.setWord a v).free = s.free := rfl

/-! ## put -/

@[simp] theorem State.put_pending (s : State) (f : Fld) (v : Nat) : (s.put f v).pending = s.pending := rfl
@[simp] theorem State.put_stale (s : State) (f : Fld) (v : Nat) : (s.put f v).stale = s.stale := rfl
@[simp] theorem State.put_tick (s : State) (f : Fld) (v : Nat) : (s.put f v).tick = s.tick := rfl
@[simp] theorem State.put_eng (s : State) (f : Fld) (v : Nat) : (s.put f v).eng = s.eng := rfl
@[simp] theorem State.put_sch (s : State) (f : Fld) (v : Nat) : (s.put f v).sch = s.sch := rfl
@[simp] theorem State.put_secs (s : State) (f : Fld) (v : Nat) : (s.put f v).secs = s.secs := rfl
@[simp] theorem State.put_locks (s : State) (f : Fld) (v : Nat) : (s.put f v).locks = s.locks := rfl
@[simp] theorem State.put_pwr (s : State) (f : Fld) (v : Nat) : (s.put f v).pwr = s.pwr := rfl
@[simp] theorem State.put_mem (s : State) (f : Fld) (v : Nat) : (s.put f v).mem = s.mem := rfl
@[simp] theorem State.put_tw (s : State) (f : Fld) (v : Nat) : (s.put f v).tw = s.tw := rfl
@[simp] theorem State.put_net (s : State) (f : Fld) (v : Nat) : (s.put f v).net = s.net := rfl
@[simp] theorem State.put_ldg (s : State) (f : Fld) (v : Nat) : (s.put f v).ldg = s.ldg := rfl
@[simp] theorem State.put_lanes (s : State) (f : Fld) (v : Nat) : (s.put f v).lanes = s.lanes := rfl
@[simp] theorem State.put_afe (s : State) (f : Fld) (v : Nat) : (s.put f v).afe = s.afe := rfl
@[simp] theorem State.put_cal (s : State) (f : Fld) (v : Nat) : (s.put f v).cal = s.cal := rfl
@[simp] theorem State.put_out (s : State) (f : Fld) (v : Nat) : (s.put f v).out = s.out := rfl
@[simp] theorem State.put_boot (s : State) (f : Fld) (v : Nat) : (s.put f v).boot = s.boot := rfl
@[simp] theorem State.put_pins (s : State) (f : Fld) (v : Nat) : (s.put f v).pins = s.pins := rfl
@[simp] theorem State.put_host (s : State) (f : Fld) (v : Nat) : (s.put f v).host = s.host := rfl
@[simp] theorem State.put_free (s : State) (f : Fld) (v : Nat) : (s.put f v).free = s.free := rfl

/-! ## setFlag -/

@[simp] theorem State.setFlag_pending (s : State) (f : Fld) : (s.setFlag f).pending = s.pending := rfl
@[simp] theorem State.setFlag_stale (s : State) (f : Fld) : (s.setFlag f).stale = s.stale := rfl
@[simp] theorem State.setFlag_tick (s : State) (f : Fld) : (s.setFlag f).tick = s.tick := rfl
@[simp] theorem State.setFlag_eng (s : State) (f : Fld) : (s.setFlag f).eng = s.eng := rfl
@[simp] theorem State.setFlag_sch (s : State) (f : Fld) : (s.setFlag f).sch = s.sch := rfl
@[simp] theorem State.setFlag_secs (s : State) (f : Fld) : (s.setFlag f).secs = s.secs := rfl
@[simp] theorem State.setFlag_locks (s : State) (f : Fld) : (s.setFlag f).locks = s.locks := rfl
@[simp] theorem State.setFlag_pwr (s : State) (f : Fld) : (s.setFlag f).pwr = s.pwr := rfl
@[simp] theorem State.setFlag_mem (s : State) (f : Fld) : (s.setFlag f).mem = s.mem := rfl
@[simp] theorem State.setFlag_tw (s : State) (f : Fld) : (s.setFlag f).tw = s.tw := rfl
@[simp] theorem State.setFlag_net (s : State) (f : Fld) : (s.setFlag f).net = s.net := rfl
@[simp] theorem State.setFlag_ldg (s : State) (f : Fld) : (s.setFlag f).ldg = s.ldg := rfl
@[simp] theorem State.setFlag_lanes (s : State) (f : Fld) : (s.setFlag f).lanes = s.lanes := rfl
@[simp] theorem State.setFlag_afe (s : State) (f : Fld) : (s.setFlag f).afe = s.afe := rfl
@[simp] theorem State.setFlag_cal (s : State) (f : Fld) : (s.setFlag f).cal = s.cal := rfl
@[simp] theorem State.setFlag_out (s : State) (f : Fld) : (s.setFlag f).out = s.out := rfl
@[simp] theorem State.setFlag_boot (s : State) (f : Fld) : (s.setFlag f).boot = s.boot := rfl
@[simp] theorem State.setFlag_pins (s : State) (f : Fld) : (s.setFlag f).pins = s.pins := rfl
@[simp] theorem State.setFlag_host (s : State) (f : Fld) : (s.setFlag f).host = s.host := rfl
@[simp] theorem State.setFlag_free (s : State) (f : Fld) : (s.setFlag f).free = s.free := rfl

/-! ## bump -/

@[simp] theorem State.bump_pending (s : State) (f : Fld) : (s.bump f).pending = s.pending := rfl
@[simp] theorem State.bump_stale (s : State) (f : Fld) : (s.bump f).stale = s.stale := rfl
@[simp] theorem State.bump_tick (s : State) (f : Fld) : (s.bump f).tick = s.tick := rfl
@[simp] theorem State.bump_eng (s : State) (f : Fld) : (s.bump f).eng = s.eng := rfl
@[simp] theorem State.bump_sch (s : State) (f : Fld) : (s.bump f).sch = s.sch := rfl
@[simp] theorem State.bump_secs (s : State) (f : Fld) : (s.bump f).secs = s.secs := rfl
@[simp] theorem State.bump_locks (s : State) (f : Fld) : (s.bump f).locks = s.locks := rfl
@[simp] theorem State.bump_pwr (s : State) (f : Fld) : (s.bump f).pwr = s.pwr := rfl
@[simp] theorem State.bump_mem (s : State) (f : Fld) : (s.bump f).mem = s.mem := rfl
@[simp] theorem State.bump_tw (s : State) (f : Fld) : (s.bump f).tw = s.tw := rfl
@[simp] theorem State.bump_net (s : State) (f : Fld) : (s.bump f).net = s.net := rfl
@[simp] theorem State.bump_ldg (s : State) (f : Fld) : (s.bump f).ldg = s.ldg := rfl
@[simp] theorem State.bump_lanes (s : State) (f : Fld) : (s.bump f).lanes = s.lanes := rfl
@[simp] theorem State.bump_afe (s : State) (f : Fld) : (s.bump f).afe = s.afe := rfl
@[simp] theorem State.bump_cal (s : State) (f : Fld) : (s.bump f).cal = s.cal := rfl
@[simp] theorem State.bump_out (s : State) (f : Fld) : (s.bump f).out = s.out := rfl
@[simp] theorem State.bump_boot (s : State) (f : Fld) : (s.bump f).boot = s.boot := rfl
@[simp] theorem State.bump_pins (s : State) (f : Fld) : (s.bump f).pins = s.pins := rfl
@[simp] theorem State.bump_host (s : State) (f : Fld) : (s.bump f).host = s.host := rfl
@[simp] theorem State.bump_free (s : State) (f : Fld) : (s.bump f).free = s.free := rfl

/-! ## onSec -/

@[simp] theorem State.onSec_pending (s : State) (n : Sector) (g : SectorSt → SectorSt) : (s.onSec n g).pending = s.pending := rfl
@[simp] theorem State.onSec_regs (s : State) (n : Sector) (g : SectorSt → SectorSt) : (s.onSec n g).regs = s.regs := rfl
@[simp] theorem State.onSec_stale (s : State) (n : Sector) (g : SectorSt → SectorSt) : (s.onSec n g).stale = s.stale := rfl
@[simp] theorem State.onSec_flips (s : State) (n : Sector) (g : SectorSt → SectorSt) : (s.onSec n g).flips = s.flips := rfl
@[simp] theorem State.onSec_tick (s : State) (n : Sector) (g : SectorSt → SectorSt) : (s.onSec n g).tick = s.tick := rfl
@[simp] theorem State.onSec_eng (s : State) (n : Sector) (g : SectorSt → SectorSt) : (s.onSec n g).eng = s.eng := rfl
@[simp] theorem State.onSec_sch (s : State) (n : Sector) (g : SectorSt → SectorSt) : (s.onSec n g).sch = s.sch := rfl
@[simp] theorem State.onSec_locks (s : State) (n : Sector) (g : SectorSt → SectorSt) : (s.onSec n g).locks = s.locks := rfl
@[simp] theorem State.onSec_pwr (s : State) (n : Sector) (g : SectorSt → SectorSt) : (s.onSec n g).pwr = s.pwr := rfl
@[simp] theorem State.onSec_mem (s : State) (n : Sector) (g : SectorSt → SectorSt) : (s.onSec n g).mem = s.mem := rfl
@[simp] theorem State.onSec_tw (s : State) (n : Sector) (g : SectorSt → SectorSt) : (s.onSec n g).tw = s.tw := rfl
@[simp] theorem State.onSec_net (s : State) (n : Sector) (g : SectorSt → SectorSt) : (s.onSec n g).net = s.net := rfl
@[simp] theorem State.onSec_ldg (s : State) (n : Sector) (g : SectorSt → SectorSt) : (s.onSec n g).ldg = s.ldg := rfl
@[simp] theorem State.onSec_lanes (s : State) (n : Sector) (g : SectorSt → SectorSt) : (s.onSec n g).lanes = s.lanes := rfl
@[simp] theorem State.onSec_afe (s : State) (n : Sector) (g : SectorSt → SectorSt) : (s.onSec n g).afe = s.afe := rfl
@[simp] theorem State.onSec_cal (s : State) (n : Sector) (g : SectorSt → SectorSt) : (s.onSec n g).cal = s.cal := rfl
@[simp] theorem State.onSec_out (s : State) (n : Sector) (g : SectorSt → SectorSt) : (s.onSec n g).out = s.out := rfl
@[simp] theorem State.onSec_boot (s : State) (n : Sector) (g : SectorSt → SectorSt) : (s.onSec n g).boot = s.boot := rfl
@[simp] theorem State.onSec_pins (s : State) (n : Sector) (g : SectorSt → SectorSt) : (s.onSec n g).pins = s.pins := rfl
@[simp] theorem State.onSec_host (s : State) (n : Sector) (g : SectorSt → SectorSt) : (s.onSec n g).host = s.host := rfl
@[simp] theorem State.onSec_free (s : State) (n : Sector) (g : SectorSt → SectorSt) : (s.onSec n g).free = s.free := rfl

/-! ## onLock -/

@[simp] theorem State.onLock_pending (s : State) (k : Fin 16) (g : LockSt → LockSt) : (s.onLock k g).pending = s.pending := rfl
@[simp] theorem State.onLock_regs (s : State) (k : Fin 16) (g : LockSt → LockSt) : (s.onLock k g).regs = s.regs := rfl
@[simp] theorem State.onLock_stale (s : State) (k : Fin 16) (g : LockSt → LockSt) : (s.onLock k g).stale = s.stale := rfl
@[simp] theorem State.onLock_flips (s : State) (k : Fin 16) (g : LockSt → LockSt) : (s.onLock k g).flips = s.flips := rfl
@[simp] theorem State.onLock_tick (s : State) (k : Fin 16) (g : LockSt → LockSt) : (s.onLock k g).tick = s.tick := rfl
@[simp] theorem State.onLock_eng (s : State) (k : Fin 16) (g : LockSt → LockSt) : (s.onLock k g).eng = s.eng := rfl
@[simp] theorem State.onLock_sch (s : State) (k : Fin 16) (g : LockSt → LockSt) : (s.onLock k g).sch = s.sch := rfl
@[simp] theorem State.onLock_secs (s : State) (k : Fin 16) (g : LockSt → LockSt) : (s.onLock k g).secs = s.secs := rfl
@[simp] theorem State.onLock_pwr (s : State) (k : Fin 16) (g : LockSt → LockSt) : (s.onLock k g).pwr = s.pwr := rfl
@[simp] theorem State.onLock_mem (s : State) (k : Fin 16) (g : LockSt → LockSt) : (s.onLock k g).mem = s.mem := rfl
@[simp] theorem State.onLock_tw (s : State) (k : Fin 16) (g : LockSt → LockSt) : (s.onLock k g).tw = s.tw := rfl
@[simp] theorem State.onLock_net (s : State) (k : Fin 16) (g : LockSt → LockSt) : (s.onLock k g).net = s.net := rfl
@[simp] theorem State.onLock_ldg (s : State) (k : Fin 16) (g : LockSt → LockSt) : (s.onLock k g).ldg = s.ldg := rfl
@[simp] theorem State.onLock_lanes (s : State) (k : Fin 16) (g : LockSt → LockSt) : (s.onLock k g).lanes = s.lanes := rfl
@[simp] theorem State.onLock_afe (s : State) (k : Fin 16) (g : LockSt → LockSt) : (s.onLock k g).afe = s.afe := rfl
@[simp] theorem State.onLock_cal (s : State) (k : Fin 16) (g : LockSt → LockSt) : (s.onLock k g).cal = s.cal := rfl
@[simp] theorem State.onLock_out (s : State) (k : Fin 16) (g : LockSt → LockSt) : (s.onLock k g).out = s.out := rfl
@[simp] theorem State.onLock_boot (s : State) (k : Fin 16) (g : LockSt → LockSt) : (s.onLock k g).boot = s.boot := rfl
@[simp] theorem State.onLock_pins (s : State) (k : Fin 16) (g : LockSt → LockSt) : (s.onLock k g).pins = s.pins := rfl
@[simp] theorem State.onLock_host (s : State) (k : Fin 16) (g : LockSt → LockSt) : (s.onLock k g).host = s.host := rfl
@[simp] theorem State.onLock_free (s : State) (k : Fin 16) (g : LockSt → LockSt) : (s.onLock k g).free = s.free := rfl

/-! ## onLane -/

@[simp] theorem State.onLane_pending (s : State) (i : LaneId) (g : LaneSt → LaneSt) : (s.onLane i g).pending = s.pending := rfl
@[simp] theorem State.onLane_regs (s : State) (i : LaneId) (g : LaneSt → LaneSt) : (s.onLane i g).regs = s.regs := rfl
@[simp] theorem State.onLane_stale (s : State) (i : LaneId) (g : LaneSt → LaneSt) : (s.onLane i g).stale = s.stale := rfl
@[simp] theorem State.onLane_flips (s : State) (i : LaneId) (g : LaneSt → LaneSt) : (s.onLane i g).flips = s.flips := rfl
@[simp] theorem State.onLane_tick (s : State) (i : LaneId) (g : LaneSt → LaneSt) : (s.onLane i g).tick = s.tick := rfl
@[simp] theorem State.onLane_eng (s : State) (i : LaneId) (g : LaneSt → LaneSt) : (s.onLane i g).eng = s.eng := rfl
@[simp] theorem State.onLane_sch (s : State) (i : LaneId) (g : LaneSt → LaneSt) : (s.onLane i g).sch = s.sch := rfl
@[simp] theorem State.onLane_secs (s : State) (i : LaneId) (g : LaneSt → LaneSt) : (s.onLane i g).secs = s.secs := rfl
@[simp] theorem State.onLane_locks (s : State) (i : LaneId) (g : LaneSt → LaneSt) : (s.onLane i g).locks = s.locks := rfl
@[simp] theorem State.onLane_pwr (s : State) (i : LaneId) (g : LaneSt → LaneSt) : (s.onLane i g).pwr = s.pwr := rfl
@[simp] theorem State.onLane_mem (s : State) (i : LaneId) (g : LaneSt → LaneSt) : (s.onLane i g).mem = s.mem := rfl
@[simp] theorem State.onLane_tw (s : State) (i : LaneId) (g : LaneSt → LaneSt) : (s.onLane i g).tw = s.tw := rfl
@[simp] theorem State.onLane_net (s : State) (i : LaneId) (g : LaneSt → LaneSt) : (s.onLane i g).net = s.net := rfl
@[simp] theorem State.onLane_ldg (s : State) (i : LaneId) (g : LaneSt → LaneSt) : (s.onLane i g).ldg = s.ldg := rfl
@[simp] theorem State.onLane_afe (s : State) (i : LaneId) (g : LaneSt → LaneSt) : (s.onLane i g).afe = s.afe := rfl
@[simp] theorem State.onLane_cal (s : State) (i : LaneId) (g : LaneSt → LaneSt) : (s.onLane i g).cal = s.cal := rfl
@[simp] theorem State.onLane_out (s : State) (i : LaneId) (g : LaneSt → LaneSt) : (s.onLane i g).out = s.out := rfl
@[simp] theorem State.onLane_boot (s : State) (i : LaneId) (g : LaneSt → LaneSt) : (s.onLane i g).boot = s.boot := rfl
@[simp] theorem State.onLane_pins (s : State) (i : LaneId) (g : LaneSt → LaneSt) : (s.onLane i g).pins = s.pins := rfl
@[simp] theorem State.onLane_host (s : State) (i : LaneId) (g : LaneSt → LaneSt) : (s.onLane i g).host = s.host := rfl
@[simp] theorem State.onLane_free (s : State) (i : LaneId) (g : LaneSt → LaneSt) : (s.onLane i g).free = s.free := rfl

/-! ## onMem -/

@[simp] theorem State.onMem_pending (s : State) (g : Mem → Mem) : (s.onMem g).pending = s.pending := rfl
@[simp] theorem State.onMem_regs (s : State) (g : Mem → Mem) : (s.onMem g).regs = s.regs := rfl
@[simp] theorem State.onMem_stale (s : State) (g : Mem → Mem) : (s.onMem g).stale = s.stale := rfl
@[simp] theorem State.onMem_flips (s : State) (g : Mem → Mem) : (s.onMem g).flips = s.flips := rfl
@[simp] theorem State.onMem_tick (s : State) (g : Mem → Mem) : (s.onMem g).tick = s.tick := rfl
@[simp] theorem State.onMem_eng (s : State) (g : Mem → Mem) : (s.onMem g).eng = s.eng := rfl
@[simp] theorem State.onMem_sch (s : State) (g : Mem → Mem) : (s.onMem g).sch = s.sch := rfl
@[simp] theorem State.onMem_secs (s : State) (g : Mem → Mem) : (s.onMem g).secs = s.secs := rfl
@[simp] theorem State.onMem_locks (s : State) (g : Mem → Mem) : (s.onMem g).locks = s.locks := rfl
@[simp] theorem State.onMem_pwr (s : State) (g : Mem → Mem) : (s.onMem g).pwr = s.pwr := rfl
@[simp] theorem State.onMem_tw (s : State) (g : Mem → Mem) : (s.onMem g).tw = s.tw := rfl
@[simp] theorem State.onMem_net (s : State) (g : Mem → Mem) : (s.onMem g).net = s.net := rfl
@[simp] theorem State.onMem_ldg (s : State) (g : Mem → Mem) : (s.onMem g).ldg = s.ldg := rfl
@[simp] theorem State.onMem_lanes (s : State) (g : Mem → Mem) : (s.onMem g).lanes = s.lanes := rfl
@[simp] theorem State.onMem_afe (s : State) (g : Mem → Mem) : (s.onMem g).afe = s.afe := rfl
@[simp] theorem State.onMem_cal (s : State) (g : Mem → Mem) : (s.onMem g).cal = s.cal := rfl
@[simp] theorem State.onMem_out (s : State) (g : Mem → Mem) : (s.onMem g).out = s.out := rfl
@[simp] theorem State.onMem_boot (s : State) (g : Mem → Mem) : (s.onMem g).boot = s.boot := rfl
@[simp] theorem State.onMem_pins (s : State) (g : Mem → Mem) : (s.onMem g).pins = s.pins := rfl
@[simp] theorem State.onMem_host (s : State) (g : Mem → Mem) : (s.onMem g).host = s.host := rfl
@[simp] theorem State.onMem_free (s : State) (g : Mem → Mem) : (s.onMem g).free = s.free := rfl

/-! ## onNet -/

@[simp] theorem State.onNet_pending (s : State) (g : Net → Net) : (s.onNet g).pending = s.pending := rfl
@[simp] theorem State.onNet_regs (s : State) (g : Net → Net) : (s.onNet g).regs = s.regs := rfl
@[simp] theorem State.onNet_stale (s : State) (g : Net → Net) : (s.onNet g).stale = s.stale := rfl
@[simp] theorem State.onNet_flips (s : State) (g : Net → Net) : (s.onNet g).flips = s.flips := rfl
@[simp] theorem State.onNet_tick (s : State) (g : Net → Net) : (s.onNet g).tick = s.tick := rfl
@[simp] theorem State.onNet_eng (s : State) (g : Net → Net) : (s.onNet g).eng = s.eng := rfl
@[simp] theorem State.onNet_sch (s : State) (g : Net → Net) : (s.onNet g).sch = s.sch := rfl
@[simp] theorem State.onNet_secs (s : State) (g : Net → Net) : (s.onNet g).secs = s.secs := rfl
@[simp] theorem State.onNet_locks (s : State) (g : Net → Net) : (s.onNet g).locks = s.locks := rfl
@[simp] theorem State.onNet_pwr (s : State) (g : Net → Net) : (s.onNet g).pwr = s.pwr := rfl
@[simp] theorem State.onNet_mem (s : State) (g : Net → Net) : (s.onNet g).mem = s.mem := rfl
@[simp] theorem State.onNet_tw (s : State) (g : Net → Net) : (s.onNet g).tw = s.tw := rfl
@[simp] theorem State.onNet_ldg (s : State) (g : Net → Net) : (s.onNet g).ldg = s.ldg := rfl
@[simp] theorem State.onNet_lanes (s : State) (g : Net → Net) : (s.onNet g).lanes = s.lanes := rfl
@[simp] theorem State.onNet_afe (s : State) (g : Net → Net) : (s.onNet g).afe = s.afe := rfl
@[simp] theorem State.onNet_cal (s : State) (g : Net → Net) : (s.onNet g).cal = s.cal := rfl
@[simp] theorem State.onNet_out (s : State) (g : Net → Net) : (s.onNet g).out = s.out := rfl
@[simp] theorem State.onNet_boot (s : State) (g : Net → Net) : (s.onNet g).boot = s.boot := rfl
@[simp] theorem State.onNet_pins (s : State) (g : Net → Net) : (s.onNet g).pins = s.pins := rfl
@[simp] theorem State.onNet_host (s : State) (g : Net → Net) : (s.onNet g).host = s.host := rfl
@[simp] theorem State.onNet_free (s : State) (g : Net → Net) : (s.onNet g).free = s.free := rfl

/-! ## onTw -/

@[simp] theorem State.onTw_pending (s : State) (g : Tangent → Tangent) : (s.onTw g).pending = s.pending := rfl
@[simp] theorem State.onTw_regs (s : State) (g : Tangent → Tangent) : (s.onTw g).regs = s.regs := rfl
@[simp] theorem State.onTw_stale (s : State) (g : Tangent → Tangent) : (s.onTw g).stale = s.stale := rfl
@[simp] theorem State.onTw_flips (s : State) (g : Tangent → Tangent) : (s.onTw g).flips = s.flips := rfl
@[simp] theorem State.onTw_tick (s : State) (g : Tangent → Tangent) : (s.onTw g).tick = s.tick := rfl
@[simp] theorem State.onTw_eng (s : State) (g : Tangent → Tangent) : (s.onTw g).eng = s.eng := rfl
@[simp] theorem State.onTw_sch (s : State) (g : Tangent → Tangent) : (s.onTw g).sch = s.sch := rfl
@[simp] theorem State.onTw_secs (s : State) (g : Tangent → Tangent) : (s.onTw g).secs = s.secs := rfl
@[simp] theorem State.onTw_locks (s : State) (g : Tangent → Tangent) : (s.onTw g).locks = s.locks := rfl
@[simp] theorem State.onTw_pwr (s : State) (g : Tangent → Tangent) : (s.onTw g).pwr = s.pwr := rfl
@[simp] theorem State.onTw_mem (s : State) (g : Tangent → Tangent) : (s.onTw g).mem = s.mem := rfl
@[simp] theorem State.onTw_net (s : State) (g : Tangent → Tangent) : (s.onTw g).net = s.net := rfl
@[simp] theorem State.onTw_ldg (s : State) (g : Tangent → Tangent) : (s.onTw g).ldg = s.ldg := rfl
@[simp] theorem State.onTw_lanes (s : State) (g : Tangent → Tangent) : (s.onTw g).lanes = s.lanes := rfl
@[simp] theorem State.onTw_afe (s : State) (g : Tangent → Tangent) : (s.onTw g).afe = s.afe := rfl
@[simp] theorem State.onTw_cal (s : State) (g : Tangent → Tangent) : (s.onTw g).cal = s.cal := rfl
@[simp] theorem State.onTw_out (s : State) (g : Tangent → Tangent) : (s.onTw g).out = s.out := rfl
@[simp] theorem State.onTw_boot (s : State) (g : Tangent → Tangent) : (s.onTw g).boot = s.boot := rfl
@[simp] theorem State.onTw_pins (s : State) (g : Tangent → Tangent) : (s.onTw g).pins = s.pins := rfl
@[simp] theorem State.onTw_host (s : State) (g : Tangent → Tangent) : (s.onTw g).host = s.host := rfl
@[simp] theorem State.onTw_free (s : State) (g : Tangent → Tangent) : (s.onTw g).free = s.free := rfl

/-! ## onHost -/

@[simp] theorem State.onHost_pending (s : State) (g : HostPort → HostPort) : (s.onHost g).pending = s.pending := rfl
@[simp] theorem State.onHost_regs (s : State) (g : HostPort → HostPort) : (s.onHost g).regs = s.regs := rfl
@[simp] theorem State.onHost_stale (s : State) (g : HostPort → HostPort) : (s.onHost g).stale = s.stale := rfl
@[simp] theorem State.onHost_flips (s : State) (g : HostPort → HostPort) : (s.onHost g).flips = s.flips := rfl
@[simp] theorem State.onHost_tick (s : State) (g : HostPort → HostPort) : (s.onHost g).tick = s.tick := rfl
@[simp] theorem State.onHost_eng (s : State) (g : HostPort → HostPort) : (s.onHost g).eng = s.eng := rfl
@[simp] theorem State.onHost_sch (s : State) (g : HostPort → HostPort) : (s.onHost g).sch = s.sch := rfl
@[simp] theorem State.onHost_secs (s : State) (g : HostPort → HostPort) : (s.onHost g).secs = s.secs := rfl
@[simp] theorem State.onHost_locks (s : State) (g : HostPort → HostPort) : (s.onHost g).locks = s.locks := rfl
@[simp] theorem State.onHost_pwr (s : State) (g : HostPort → HostPort) : (s.onHost g).pwr = s.pwr := rfl
@[simp] theorem State.onHost_mem (s : State) (g : HostPort → HostPort) : (s.onHost g).mem = s.mem := rfl
@[simp] theorem State.onHost_tw (s : State) (g : HostPort → HostPort) : (s.onHost g).tw = s.tw := rfl
@[simp] theorem State.onHost_net (s : State) (g : HostPort → HostPort) : (s.onHost g).net = s.net := rfl
@[simp] theorem State.onHost_ldg (s : State) (g : HostPort → HostPort) : (s.onHost g).ldg = s.ldg := rfl
@[simp] theorem State.onHost_lanes (s : State) (g : HostPort → HostPort) : (s.onHost g).lanes = s.lanes := rfl
@[simp] theorem State.onHost_afe (s : State) (g : HostPort → HostPort) : (s.onHost g).afe = s.afe := rfl
@[simp] theorem State.onHost_cal (s : State) (g : HostPort → HostPort) : (s.onHost g).cal = s.cal := rfl
@[simp] theorem State.onHost_out (s : State) (g : HostPort → HostPort) : (s.onHost g).out = s.out := rfl
@[simp] theorem State.onHost_boot (s : State) (g : HostPort → HostPort) : (s.onHost g).boot = s.boot := rfl
@[simp] theorem State.onHost_pins (s : State) (g : HostPort → HostPort) : (s.onHost g).pins = s.pins := rfl
@[simp] theorem State.onHost_free (s : State) (g : HostPort → HostPort) : (s.onHost g).free = s.free := rfl

/-! ## setThermos -/

@[simp] theorem State.setThermos_pending (s : State) (a : Nat) (v : Word) : (s.setThermos a v).pending = s.pending := rfl
@[simp] theorem State.setThermos_regs (s : State) (a : Nat) (v : Word) : (s.setThermos a v).regs = s.regs := rfl
@[simp] theorem State.setThermos_stale (s : State) (a : Nat) (v : Word) : (s.setThermos a v).stale = s.stale := rfl
@[simp] theorem State.setThermos_flips (s : State) (a : Nat) (v : Word) : (s.setThermos a v).flips = s.flips := rfl
@[simp] theorem State.setThermos_tick (s : State) (a : Nat) (v : Word) : (s.setThermos a v).tick = s.tick := rfl
@[simp] theorem State.setThermos_eng (s : State) (a : Nat) (v : Word) : (s.setThermos a v).eng = s.eng := rfl
@[simp] theorem State.setThermos_sch (s : State) (a : Nat) (v : Word) : (s.setThermos a v).sch = s.sch := rfl
@[simp] theorem State.setThermos_secs (s : State) (a : Nat) (v : Word) : (s.setThermos a v).secs = s.secs := rfl
@[simp] theorem State.setThermos_locks (s : State) (a : Nat) (v : Word) : (s.setThermos a v).locks = s.locks := rfl
@[simp] theorem State.setThermos_pwr (s : State) (a : Nat) (v : Word) : (s.setThermos a v).pwr = s.pwr := rfl
@[simp] theorem State.setThermos_tw (s : State) (a : Nat) (v : Word) : (s.setThermos a v).tw = s.tw := rfl
@[simp] theorem State.setThermos_net (s : State) (a : Nat) (v : Word) : (s.setThermos a v).net = s.net := rfl
@[simp] theorem State.setThermos_ldg (s : State) (a : Nat) (v : Word) : (s.setThermos a v).ldg = s.ldg := rfl
@[simp] theorem State.setThermos_lanes (s : State) (a : Nat) (v : Word) : (s.setThermos a v).lanes = s.lanes := rfl
@[simp] theorem State.setThermos_afe (s : State) (a : Nat) (v : Word) : (s.setThermos a v).afe = s.afe := rfl
@[simp] theorem State.setThermos_cal (s : State) (a : Nat) (v : Word) : (s.setThermos a v).cal = s.cal := rfl
@[simp] theorem State.setThermos_out (s : State) (a : Nat) (v : Word) : (s.setThermos a v).out = s.out := rfl
@[simp] theorem State.setThermos_boot (s : State) (a : Nat) (v : Word) : (s.setThermos a v).boot = s.boot := rfl
@[simp] theorem State.setThermos_pins (s : State) (a : Nat) (v : Word) : (s.setThermos a v).pins = s.pins := rfl
@[simp] theorem State.setThermos_host (s : State) (a : Nat) (v : Word) : (s.setThermos a v).host = s.host := rfl
@[simp] theorem State.setThermos_free (s : State) (a : Nat) (v : Word) : (s.setThermos a v).free = s.free := rfl

/-! ## setDom -/

@[simp] theorem State.setDom_pending (s : State) (d : Dom) (x : DomSt) : (s.setDom d x).pending = s.pending := rfl
@[simp] theorem State.setDom_regs (s : State) (d : Dom) (x : DomSt) : (s.setDom d x).regs = s.regs := rfl
@[simp] theorem State.setDom_stale (s : State) (d : Dom) (x : DomSt) : (s.setDom d x).stale = s.stale := rfl
@[simp] theorem State.setDom_flips (s : State) (d : Dom) (x : DomSt) : (s.setDom d x).flips = s.flips := rfl
@[simp] theorem State.setDom_tick (s : State) (d : Dom) (x : DomSt) : (s.setDom d x).tick = s.tick := rfl
@[simp] theorem State.setDom_eng (s : State) (d : Dom) (x : DomSt) : (s.setDom d x).eng = s.eng := rfl
@[simp] theorem State.setDom_sch (s : State) (d : Dom) (x : DomSt) : (s.setDom d x).sch = s.sch := rfl
@[simp] theorem State.setDom_secs (s : State) (d : Dom) (x : DomSt) : (s.setDom d x).secs = s.secs := rfl
@[simp] theorem State.setDom_locks (s : State) (d : Dom) (x : DomSt) : (s.setDom d x).locks = s.locks := rfl
@[simp] theorem State.setDom_mem (s : State) (d : Dom) (x : DomSt) : (s.setDom d x).mem = s.mem := rfl
@[simp] theorem State.setDom_tw (s : State) (d : Dom) (x : DomSt) : (s.setDom d x).tw = s.tw := rfl
@[simp] theorem State.setDom_net (s : State) (d : Dom) (x : DomSt) : (s.setDom d x).net = s.net := rfl
@[simp] theorem State.setDom_ldg (s : State) (d : Dom) (x : DomSt) : (s.setDom d x).ldg = s.ldg := rfl
@[simp] theorem State.setDom_lanes (s : State) (d : Dom) (x : DomSt) : (s.setDom d x).lanes = s.lanes := rfl
@[simp] theorem State.setDom_afe (s : State) (d : Dom) (x : DomSt) : (s.setDom d x).afe = s.afe := rfl
@[simp] theorem State.setDom_cal (s : State) (d : Dom) (x : DomSt) : (s.setDom d x).cal = s.cal := rfl
@[simp] theorem State.setDom_out (s : State) (d : Dom) (x : DomSt) : (s.setDom d x).out = s.out := rfl
@[simp] theorem State.setDom_boot (s : State) (d : Dom) (x : DomSt) : (s.setDom d x).boot = s.boot := rfl
@[simp] theorem State.setDom_pins (s : State) (d : Dom) (x : DomSt) : (s.setDom d x).pins = s.pins := rfl
@[simp] theorem State.setDom_host (s : State) (d : Dom) (x : DomSt) : (s.setDom d x).host = s.host := rfl
@[simp] theorem State.setDom_free (s : State) (d : Dom) (x : DomSt) : (s.setDom d x).free = s.free := rfl

/-! ## addFlight -/

@[simp] theorem State.addFlight_pending (s : State) (f : Flight) : (s.addFlight f).pending = s.pending := rfl
@[simp] theorem State.addFlight_regs (s : State) (f : Flight) : (s.addFlight f).regs = s.regs := rfl
@[simp] theorem State.addFlight_stale (s : State) (f : Flight) : (s.addFlight f).stale = s.stale := rfl
@[simp] theorem State.addFlight_flips (s : State) (f : Flight) : (s.addFlight f).flips = s.flips := rfl
@[simp] theorem State.addFlight_tick (s : State) (f : Flight) : (s.addFlight f).tick = s.tick := rfl
@[simp] theorem State.addFlight_sch (s : State) (f : Flight) : (s.addFlight f).sch = s.sch := rfl
@[simp] theorem State.addFlight_secs (s : State) (f : Flight) : (s.addFlight f).secs = s.secs := rfl
@[simp] theorem State.addFlight_locks (s : State) (f : Flight) : (s.addFlight f).locks = s.locks := rfl
@[simp] theorem State.addFlight_pwr (s : State) (f : Flight) : (s.addFlight f).pwr = s.pwr := rfl
@[simp] theorem State.addFlight_mem (s : State) (f : Flight) : (s.addFlight f).mem = s.mem := rfl
@[simp] theorem State.addFlight_tw (s : State) (f : Flight) : (s.addFlight f).tw = s.tw := rfl
@[simp] theorem State.addFlight_net (s : State) (f : Flight) : (s.addFlight f).net = s.net := rfl
@[simp] theorem State.addFlight_ldg (s : State) (f : Flight) : (s.addFlight f).ldg = s.ldg := rfl
@[simp] theorem State.addFlight_lanes (s : State) (f : Flight) : (s.addFlight f).lanes = s.lanes := rfl
@[simp] theorem State.addFlight_afe (s : State) (f : Flight) : (s.addFlight f).afe = s.afe := rfl
@[simp] theorem State.addFlight_cal (s : State) (f : Flight) : (s.addFlight f).cal = s.cal := rfl
@[simp] theorem State.addFlight_out (s : State) (f : Flight) : (s.addFlight f).out = s.out := rfl
@[simp] theorem State.addFlight_boot (s : State) (f : Flight) : (s.addFlight f).boot = s.boot := rfl
@[simp] theorem State.addFlight_pins (s : State) (f : Flight) : (s.addFlight f).pins = s.pins := rfl
@[simp] theorem State.addFlight_host (s : State) (f : Flight) : (s.addFlight f).host = s.host := rfl
@[simp] theorem State.addFlight_free (s : State) (f : Flight) : (s.addFlight f).free = s.free := rfl

/-! ## setSeg -/

@[simp] theorem State.setSeg_pending (s : State) (g : RunSeg) : (s.setSeg g).pending = s.pending := rfl
@[simp] theorem State.setSeg_regs (s : State) (g : RunSeg) : (s.setSeg g).regs = s.regs := rfl
@[simp] theorem State.setSeg_stale (s : State) (g : RunSeg) : (s.setSeg g).stale = s.stale := rfl
@[simp] theorem State.setSeg_flips (s : State) (g : RunSeg) : (s.setSeg g).flips = s.flips := rfl
@[simp] theorem State.setSeg_tick (s : State) (g : RunSeg) : (s.setSeg g).tick = s.tick := rfl
@[simp] theorem State.setSeg_sch (s : State) (g : RunSeg) : (s.setSeg g).sch = s.sch := rfl
@[simp] theorem State.setSeg_secs (s : State) (g : RunSeg) : (s.setSeg g).secs = s.secs := rfl
@[simp] theorem State.setSeg_locks (s : State) (g : RunSeg) : (s.setSeg g).locks = s.locks := rfl
@[simp] theorem State.setSeg_pwr (s : State) (g : RunSeg) : (s.setSeg g).pwr = s.pwr := rfl
@[simp] theorem State.setSeg_mem (s : State) (g : RunSeg) : (s.setSeg g).mem = s.mem := rfl
@[simp] theorem State.setSeg_tw (s : State) (g : RunSeg) : (s.setSeg g).tw = s.tw := rfl
@[simp] theorem State.setSeg_net (s : State) (g : RunSeg) : (s.setSeg g).net = s.net := rfl
@[simp] theorem State.setSeg_ldg (s : State) (g : RunSeg) : (s.setSeg g).ldg = s.ldg := rfl
@[simp] theorem State.setSeg_lanes (s : State) (g : RunSeg) : (s.setSeg g).lanes = s.lanes := rfl
@[simp] theorem State.setSeg_afe (s : State) (g : RunSeg) : (s.setSeg g).afe = s.afe := rfl
@[simp] theorem State.setSeg_cal (s : State) (g : RunSeg) : (s.setSeg g).cal = s.cal := rfl
@[simp] theorem State.setSeg_out (s : State) (g : RunSeg) : (s.setSeg g).out = s.out := rfl
@[simp] theorem State.setSeg_boot (s : State) (g : RunSeg) : (s.setSeg g).boot = s.boot := rfl
@[simp] theorem State.setSeg_pins (s : State) (g : RunSeg) : (s.setSeg g).pins = s.pins := rfl
@[simp] theorem State.setSeg_host (s : State) (g : RunSeg) : (s.setSeg g).host = s.host := rfl
@[simp] theorem State.setSeg_free (s : State) (g : RunSeg) : (s.setSeg g).free = s.free := rfl

/-! ## What an update changes -/

@[simp] theorem State.onSec_secs (s : State) (n : Sector) (g : SectorSt → SectorSt) : (s.onSec n g).secs = s.secs.set n (g s.secs[n]) := rfl
@[simp] theorem State.onLock_locks (s : State) (k : Fin 16) (g : LockSt → LockSt) : (s.onLock k g).locks = s.locks.set k (g s.locks[k]) := rfl
@[simp] theorem State.onLane_lanes (s : State) (i : LaneId) (g : LaneSt → LaneSt) : (s.onLane i g).lanes = s.lanes.set i (g s.lanes[i]) := rfl
@[simp] theorem State.onMem_mem (s : State) (g : Mem → Mem) : (s.onMem g).mem = g s.mem := rfl
@[simp] theorem State.onNet_net (s : State) (g : Net → Net) : (s.onNet g).net = g s.net := rfl
@[simp] theorem State.onTw_tw (s : State) (g : Tangent → Tangent) : (s.onTw g).tw = g s.tw := rfl
@[simp] theorem State.onHost_host (s : State) (g : HostPort → HostPort) : (s.onHost g).host = g s.host := rfl
@[simp] theorem State.addFlight_flights (s : State) (f : Flight) : (s.addFlight f).eng.flights = s.eng.flights ++ [f] := rfl

end Sys2Proof.Machine
end

