-- ==== Sys2Proof/Laws/Memory.lean ====
section
/-! SUPPORT. Every operation that writes a sparse memory keeps the canonical form of all of them (Memory.wf), and what a write of Hamper
leaves elsewhere. -/

namespace Sys2Proof.Machine

variable {α : Type} [DecidableEq α]

/-- Entries that keep their address and are dropped where they would hold the default keep the canonical form. -/
theorem storeWf_filterMap {dflt : Nat → α} {m : List (Nat × α)} (f : Nat × α → Option (Nat × α))
    (hf : ∀ c d, c.2 ≠ dflt c.1 → f c = some d → d.1 = c.1 ∧ d.2 ≠ dflt d.1) (h : storeWf dflt m = true) :
    storeWf dflt (m.filterMap f) = true := by
  unfold storeWf at *
  generalize 0 = lo at h
  induction m generalizing lo with
  | nil => rfl
  | cons c m ih =>
    obtain ⟨k, v⟩ := c
    simp only [storeWfFrom, Bool.and_eq_true, decide_eq_true_eq] at h
    rw [List.filterMap_cons]
    cases e : f (k, v) with
    | none => exact storeWfFrom_weaken (by omega) (ih (k + 1) h.2)
    | some d =>
      obtain ⟨hk, hd⟩ := hf (k, v) d h.1.2 e
      obtain ⟨dk, dv⟩ := d
      simp only at hk; subst hk
      simp only [storeWfFrom, Bool.and_eq_true, decide_eq_true_eq]
      exact ⟨⟨h.1.1, hd⟩, ih _ h.2⟩

/-- The canonical form depends on the fourteen sparse memories alone. -/
theorem Memory.wf_congr {s t : State} (h : Memory.wf s = true) (h1 : t.regs = s.regs) (h2 : t.stale = s.stale) (h3 : t.eng.imem = s.eng.imem)
    (h4 : t.eng.imemUpset = s.eng.imemUpset) (h5 : t.mem.hamper = s.mem.hamper) (h6 : t.mem.upset = s.mem.upset)
    (h7 : t.mem.thermos = s.mem.thermos) (h8 : t.mem.flash = s.mem.flash) (h9 : t.mem.wear = s.mem.wear) (h10 : t.mem.otp = s.mem.otp)
    (h11 : t.cal.mem = s.cal.mem) (h12 : t.cal.staged = s.cal.staged) (h13 : t.cal.lastv = s.cal.lastv)
    (h14 : t.afe.staged = s.afe.staged) : Memory.wf t = true := by
  unfold Memory.wf at *
  rw [h1, h2, h3, h4, h5, h6, h7, h8, h9, h10, h11, h12, h13, h14]
  exact h

/-! ## Each memory of a state in canonical form -/

theorem Memory.wf_regs {s : State} (h : Memory.wf s = true) : storeWf regPor s.regs = true := by
  simp only [Memory.wf, Bool.and_eq_true] at h
  exact h.1.1.1.1.1.1.1.1.1.1.1.1.1

theorem Memory.wf_stale {s : State} (h : Memory.wf s = true) : storeWf regPor s.stale = true := by
  simp only [Memory.wf, Bool.and_eq_true] at h
  exact h.1.1.1.1.1.1.1.1.1.1.1.1.2

theorem Memory.wf_imem {s : State} (h : Memory.wf s = true) : storeWf (fun _ => 0) s.eng.imem = true := by
  simp only [Memory.wf, Bool.and_eq_true] at h
  exact h.1.1.1.1.1.1.1.1.1.1.1.2

theorem Memory.wf_imemUpset {s : State} (h : Memory.wf s = true) : storeWf (fun _ => Upset.none) s.eng.imemUpset = true := by
  simp only [Memory.wf, Bool.and_eq_true] at h
  exact h.1.1.1.1.1.1.1.1.1.1.2

theorem Memory.wf_hamper {s : State} (h : Memory.wf s = true) : storeWf (fun _ => 0) s.mem.hamper = true := by
  simp only [Memory.wf, Bool.and_eq_true] at h
  exact h.1.1.1.1.1.1.1.1.1.2

theorem Memory.wf_upset {s : State} (h : Memory.wf s = true) : storeWf (fun _ => Upset.none) s.mem.upset = true := by
  simp only [Memory.wf, Bool.and_eq_true] at h
  exact h.1.1.1.1.1.1.1.1.2

theorem Memory.wf_thermos {s : State} (h : Memory.wf s = true) : storeWf (fun _ => 0) s.mem.thermos = true := by
  simp only [Memory.wf, Bool.and_eq_true] at h
  exact h.1.1.1.1.1.1.1.2

theorem Memory.wf_flash {s : State} (h : Memory.wf s = true) : storeWf (fun _ => 0xFF) s.mem.flash = true := by
  simp only [Memory.wf, Bool.and_eq_true] at h
  exact h.1.1.1.1.1.1.2

theorem Memory.wf_wear {s : State} (h : Memory.wf s = true) : storeWf (fun _ => 0) s.mem.wear = true := by
  simp only [Memory.wf, Bool.and_eq_true] at h
  exact h.1.1.1.1.1.2

theorem Memory.wf_otp {s : State} (h : Memory.wf s = true) : storeWf (fun _ => 0) s.mem.otp = true := by
  simp only [Memory.wf, Bool.and_eq_true] at h
  exact h.1.1.1.1.2

theorem Memory.wf_curve {s : State} (h : Memory.wf s = true) : storeWf curveReset s.cal.mem = true := by
  simp only [Memory.wf, Bool.and_eq_true] at h
  exact h.1.1.1.2

theorem Memory.wf_curveStaged {s : State} (h : Memory.wf s = true) : storeWf (fun _ => none) s.cal.staged = true := by
  simp only [Memory.wf, Bool.and_eq_true] at h
  exact h.1.1.2

theorem Memory.wf_lastv {s : State} (h : Memory.wf s = true) : storeWf (fun _ => none) s.cal.lastv = true := by
  simp only [Memory.wf, Bool.and_eq_true] at h
  exact h.1.2

theorem Memory.wf_staged {s : State} (h : Memory.wf s = true) : storeWf (fun _ => none) s.afe.staged = true := by
  simp only [Memory.wf, Bool.and_eq_true] at h
  exact h.2

/-! ## Registers (18) -/

theorem Memory.wf_setBits {s : State} (h : Memory.wf s = true) (a : Nat) (m v : Word) : Memory.wf (s.setBits a m v) = true := by
  simp only [Memory.wf, Bool.and_eq_true] at *
  simp only [State.setBits, storeWf_storeWrite, h, and_self]

theorem Memory.wf_put {s : State} (h : Memory.wf s = true) (f : Fld) (v : Nat) : Memory.wf (s.put f v) = true := Memory.wf_setBits h ..

theorem Memory.wf_setWord {s : State} (h : Memory.wf s = true) (a : Nat) (v : Word) : Memory.wf (s.setWord a v) = true := Memory.wf_setBits h ..

theorem Memory.wf_setFlag {s : State} (h : Memory.wf s = true) (f : Fld) : Memory.wf (s.setFlag f) = true := Memory.wf_put h ..

theorem Memory.wf_bump {s : State} (h : Memory.wf s = true) (f : Fld) : Memory.wf (s.bump f) = true := Memory.wf_put h ..

/-- The register columns of a device reset (16 Table RST-1). -/
theorem Memory.wf_porColumn {s : State} (h : Memory.wf s = true) (keep : Bool) : Memory.wf (s.porColumn keep) = true := by
  have key : storeWf regPor (s.porColumn keep).regs = true := by
    refine storeWf_filterMap _ ?_ (Memory.wf_regs h)
    intro c d _ e
    generalize (if keep = true then thermosBits c.1 else 0) = m at e
    by_cases hv : c.2 &&& m ||| regPor c.1 &&& ~~~m = regPor c.1
    · simp [hv] at e
    · simp only [hv, if_false, Option.some.injEq] at e
      subst e
      exact ⟨rfl, hv⟩
  have hs : (s.porColumn keep).stale = (s.porColumn keep).regs := rfl
  simp only [Memory.wf, Bool.and_eq_true] at *
  simp only [hs, key]
  simp only [State.porColumn, h, and_self]

/-! ## Hamper (12 R274, 06 Table PWR-2) -/

theorem Memory.wf_writeHamper {s : State} (h : Memory.wf s = true) (p : Nat) (v : Word) : Memory.wf (s.writeHamper p v) = true := by
  simp only [Memory.wf, Bool.and_eq_true] at *
  simp only [State.writeHamper, storeWf_storeWrite, h, and_self]

theorem Memory.wf_setUpset {s : State} (h : Memory.wf s = true) (p : Nat) (u : Upset) : Memory.wf (s.setUpset p u) = true := by
  simp only [Memory.wf, Bool.and_eq_true] at *
  simp only [State.setUpset, State.onMem, storeWf_storeWrite, h, and_self]

theorem Memory.wf_clearBank {s : State} (h : Memory.wf s = true) (k : Nat) : Memory.wf (s.clearBank k) = true := by
  simp only [Memory.wf, Bool.and_eq_true] at *
  simp only [State.clearBank, storeWf_filter, h, and_self]

theorem storeWf_foldl {dflt : Nat → α} {β : Type} (f : List (Nat × α) → β → List (Nat × α))
    (hf : ∀ m b, storeWf dflt m = true → storeWf dflt (f m b) = true) (l : List β) {m : List (Nat × α)} (h : storeWf dflt m = true) :
    storeWf dflt (l.foldl f m) = true := by
  induction l generalizing m with
  | nil => exact h
  | cons b l ih => exact ih (hf m b h)

theorem Memory.wf_flipHamper {s : State} (h : Memory.wf s = true) (l : List (Nat × Upset)) : Memory.wf (s.flipHamper l) = true := by
  have key : storeWf (fun _ => Upset.none) (s.flipHamper l).mem.upset = true := by
    refine storeWf_foldl _ ?_ l (Memory.wf_upset h)
    intro m c hm
    split
    · exact storeWf_storeWrite hm ..
    · exact hm
  simp only [Memory.wf, Bool.and_eq_true] at *
  simp only [key]
  simp only [State.flipHamper, State.onMem, h, and_self]

/-- A write of one word of Hamper changes that word and no other. -/
theorem State.hamperWord_writeHamper {s : State} (h : Memory.wf s = true) (p q : Nat) (v : Word) :
    (s.writeHamper p v).hamperWord q = if q = p then v else s.hamperWord q :=
  storeRead_storeWrite (Memory.wf_hamper h) ..

/-- A store through a window changes at most the word it names, and only counters of its own register besides. -/
theorem State.hamperWord_storeAt {s : State} (h : Memory.wf s = true) (n : Sector) (ea v : Word) (q : Nat) :
    (s.storeAt n ea v).hamperWord q = if s.inWindow n ea.toNat = some q then v else s.hamperWord q := by
  unfold State.storeAt
  cases e : s.inWindow n ea.toNat with
  | none => simp [State.windowMiss, State.setFlag, State.bump, State.put, State.hamperWord]
  | some p =>
    simp only [State.hamperWord_writeHamper h, Option.some.injEq]
    by_cases hq : q = p
    · simp [hq]
    · simp [hq, Ne.symm hq]

theorem Memory.wf_storeAt {s : State} (h : Memory.wf s = true) (n : Sector) (ea v : Word) : Memory.wf (s.storeAt n ea v) = true := by
  unfold State.storeAt
  split
  · exact Memory.wf_writeHamper h ..
  · exact Memory.wf_setFlag (Memory.wf_bump h ..) ..

/-! ## Instruction memory (03 R79, 02 R36) -/

theorem Memory.wf_writeBundles {s : State} (h : Memory.wf s = true) (a : Nat) (l : List Bundle) : Memory.wf (s.writeBundles a l) = true := by
  simp only [Memory.wf, Bool.and_eq_true] at *
  simp only [State.writeBundles, storeWf_storeWriteRun, storeWf_filter, h, and_self]

/-! ## Thermos, flash, OTP (12) -/

theorem Memory.wf_setThermos {s : State} (h : Memory.wf s = true) (a : Nat) (v : Word) : Memory.wf (s.setThermos a v) = true := by
  simp only [Memory.wf, Bool.and_eq_true] at *
  simp only [State.setThermos, storeWf_storeWrite, h, and_self]

/-- A log request: it joins the queue, or counts in Thermos. -/
theorem Memory.wf_logRequest {s : State} (h : Memory.wf s = true) (r : LogReq) : Memory.wf (s.logRequest r) = true := by
  unfold State.logRequest
  split
  · exact Memory.wf_congr h rfl rfl rfl rfl rfl rfl rfl rfl rfl rfl rfl rfl rfl rfl
  · exact Memory.wf_setThermos h ..

theorem Memory.wf_log {s : State} (h : Memory.wf s = true) (cls sec idx code detail : Nat) : Memory.wf (s.log cls sec idx code detail) = true :=
  Memory.wf_logRequest h _

/-- What one cycle does keeps the stores if it does so with an empty log queue: the requests it made only enter the queue. -/
theorem Memory.wf_inOneCycle {s : State} (h : Memory.wf s = true) {f : State → State}
    (hf : ∀ t, Memory.wf t = true → Memory.wf (f t) = true) : Memory.wf (s.inOneCycle f) = true := by
  have hr : ∀ (l : List LogReq) (t : State), Memory.wf t = true → Memory.wf (l.foldl State.logRequest t) = true := by
    intro l
    induction l with
    | nil => exact fun _ ht => ht
    | cons r l ih => exact fun t ht => ih _ (Memory.wf_logRequest ht r)
  have h0 := hf { s with mem := { s.mem with logq := [] } } (Memory.wf_congr h rfl rfl rfl rfl rfl rfl rfl rfl rfl rfl rfl rfl rfl rfl)
  exact hr _ _ (Memory.wf_congr h0 rfl rfl rfl rfl rfl rfl rfl rfl rfl rfl rfl rfl rfl rfl)

theorem Memory.wf_putFlash {s : State} (h : Memory.wf s = true) (a : Nat) (l : List Byte) : Memory.wf (s.putFlash a l) = true := by
  simp only [Memory.wf, Bool.and_eq_true] at *
  simp only [State.putFlash, State.onMem, storeWf_storeWriteRun, h, and_self]

theorem Memory.wf_erasePage {s : State} (h : Memory.wf s = true) (p : Nat) : Memory.wf (s.erasePage p) = true := by
  simp only [Memory.wf, Bool.and_eq_true] at *
  simp only [State.erasePage, State.onMem, storeWf_filter, h, and_self]

theorem Memory.wf_abandonOtp {s : State} (h : Memory.wf s = true) : Memory.wf s.abandonOtp = true := by
  unfold State.abandonOtp
  split
  · exact h
  · simp only [Memory.wf, Bool.and_eq_true] at *
    simp only [State.fresh, State.onMem, storeWf_storeWrite, h, and_self]

/-! ## Curve memory and staged words (10, 08, 09) -/

theorem Memory.wf_setCurve {s : State} (h : Memory.wf s = true) (a : Nat) (v : Word) : Memory.wf (s.setCurve a v) = true := by
  simp only [Memory.wf, Bool.and_eq_true] at *
  simp only [State.setCurve, storeWf_storeWrite, h, and_self]

theorem Memory.wf_stageCurve {s : State} (h : Memory.wf s = true) (a : Nat) (v : Option Word) : Memory.wf (s.stageCurve a v) = true := by
  simp only [Memory.wf, Bool.and_eq_true] at *
  simp only [State.stageCurve, storeWf_storeWrite, h, and_self]

theorem Memory.wf_stageWord {s : State} (h : Memory.wf s = true) (a : Nat) (v : Option Word) : Memory.wf (s.stageWord a v) = true := by
  simp only [Memory.wf, Bool.and_eq_true] at *
  simp only [State.stageWord, storeWf_storeWrite, h, and_self]

theorem Memory.wf_commitStaged {s : State} (h : Memory.wf s = true) (a k : Nat) : Memory.wf (commitStaged a k s) = true := by
  induction k generalizing a s with
  | zero => exact h
  | succ k ih =>
    refine ih ?_ _
    split
    · exact Memory.wf_stageWord (Memory.wf_setWord h ..) ..
    · exact h

/-! ## Reads that leave something behind, scrubbing, slow-clock copies -/

/-- Parts that no sparse memory lies in may change. -/
theorem Memory.wf_fresh {s : State} (h : Memory.wf s = true) : Memory.wf s.fresh.2 = true := h

theorem Memory.wf_onMem {s : State} (h : Memory.wf s = true) (f : Mem → Mem) (h1 : (f s.mem).hamper = s.mem.hamper)
    (h2 : (f s.mem).upset = s.mem.upset) (h3 : (f s.mem).thermos = s.mem.thermos) (h4 : (f s.mem).flash = s.mem.flash)
    (h5 : (f s.mem).wear = s.mem.wear) (h6 : (f s.mem).otp = s.mem.otp) : Memory.wf (s.onMem f) = true :=
  Memory.wf_congr h rfl rfl rfl rfl h1 h2 h3 h4 h5 h6 rfl rfl rfl rfl

theorem Memory.wf_hamperCorrected {s : State} (h : Memory.wf s = true) (p : Nat) : Memory.wf (s.hamperCorrected p) = true := by
  have k := Memory.wf_put (Memory.wf_bump (Memory.wf_setFlag h F.MEM_HECC_SBE) F.MEM_HECC_SCNT) F.MEM_HEADDR_ADDR p
  unfold State.hamperCorrected
  dsimp only
  split
  · exact k
  · split
    · exact Memory.wf_congr k rfl rfl rfl rfl rfl rfl rfl rfl rfl rfl rfl rfl rfl rfl
    · exact Memory.wf_setFlag k ..

theorem Memory.wf_hamperDamaged {s : State} (h : Memory.wf s = true) (p : Nat) : Memory.wf (s.hamperDamaged p) = true :=
  Memory.wf_log (Memory.wf_put (Memory.wf_bump (Memory.wf_setFlag h ..) ..) ..) ..

/-- What a read leaves behind. -/
theorem Memory.wf_noteRead {s : State} (h : Memory.wf s = true) (n : Sector) (k : ReadNote) : Memory.wf (s.noteRead n k) = true := by
  cases k with
  | miss => exact Memory.wf_setFlag (Memory.wf_bump h ..) ..
  | clean => exact h
  | corrected p => exact Memory.wf_hamperCorrected h p
  | damaged p => exact Memory.wf_hamperDamaged h p

/-- The value of a read draws at most a free value. -/
theorem Memory.wf_peekHamper {s : State} (h : Memory.wf s = true) (p : Nat) : Memory.wf (s.peekHamper p).2.2 = true := by
  unfold State.peekHamper
  split
  · exact h
  · exact h
  · exact h
  · dsimp only
    split <;> exact Memory.wf_fresh h

theorem Memory.wf_peekAt {s : State} (h : Memory.wf s = true) (n : Sector) (ea : Word) : Memory.wf (s.peekAt n ea).2.2 = true := by
  unfold State.peekAt
  split
  · exact Memory.wf_peekHamper h ..
  · exact h

/-- A read of Hamper, whatever errors it finds. -/
theorem Memory.wf_readHamper {s : State} (h : Memory.wf s = true) (p : Nat) : Memory.wf (s.readHamper p).2 = true :=
  Memory.wf_noteRead (Memory.wf_peekHamper h p) ..

/-- A load through a window. -/
theorem Memory.wf_loadAt {s : State} (h : Memory.wf s = true) (n : Sector) (ea : Word) : Memory.wf (s.loadAt n ea).2 = true :=
  Memory.wf_noteRead (Memory.wf_peekAt h n ea) ..

/-- A fold of steps that keep the canonical form keeps it. -/
theorem Memory.wf_foldl {β : Type} (f : State → β → State) (hf : ∀ s b, Memory.wf s = true → Memory.wf (f s b) = true) (l : List β) {s : State}
    (h : Memory.wf s = true) : Memory.wf (l.foldl f s) = true := by
  induction l generalizing s with
  | nil => exact h
  | cons b l ih => exact ih (hf s b h)

theorem Memory.wf_drainWriteBack {s : State} (h : Memory.wf s = true) : Memory.wf s.drainWriteBack = true := by
  refine Memory.wf_onMem (Memory.wf_foldl _ ?_ _ h) _ rfl rfl rfl rfl rfl rfl
  intro s p h
  split
  · exact Memory.wf_setUpset h ..
  · exact h

theorem Memory.wf_drainImemFix {s : State} (h : Memory.wf s = true) : Memory.wf s.drainImemFix = true := by
  have key : storeWf (fun _ => Upset.none) s.drainImemFix.eng.imemUpset = true := by
    refine storeWf_foldl _ ?_ _ (Memory.wf_imemUpset h)
    intro m p hm
    split
    · exact storeWf_storeWrite hm ..
    · exact hm
  simp only [Memory.wf, Bool.and_eq_true] at *
  simp only [key]
  simp only [State.drainImemFix, h, and_self]

theorem Memory.wf_scrubWord {s : State} (h : Memory.wf s = true) (p : Nat) : Memory.wf (s.scrubWord p) = true := by
  have fix {s : State} (h : Memory.wf s = true) : Memory.wf (s.scrubCorrected p) = true :=
    Memory.wf_setUpset (Memory.wf_put (Memory.wf_bump (Memory.wf_setFlag h ..) ..) ..) ..
  have bad {s : State} (h : Memory.wf s = true) : Memory.wf (s.scrubDamaged p) = true :=
    Memory.wf_log (Memory.wf_put (Memory.wf_bump (Memory.wf_setFlag h ..) ..) ..) ..
  unfold State.scrubWord
  split
  · exact h
  · exact fix h
  · exact bad h
  · dsimp only
    split
    · exact fix (Memory.wf_writeHamper (Memory.wf_fresh h) ..)
    · exact bad (Memory.wf_fresh h)
    · exact Memory.wf_fresh h

theorem Memory.wf_setScrubPtr {s : State} (h : Memory.wf s = true) (p : Nat) : Memory.wf (s.setScrubPtr p) = true := by
  unfold State.setScrubPtr
  split
  · exact Memory.wf_put h ..
  · exact Memory.wf_bump (Memory.wf_put h ..) ..

theorem Memory.wf_skipBanks {s : State} (h : Memory.wf s = true) (k : Nat) : Memory.wf (s.skipBanks k) = true := by
  induction k generalizing s with
  | zero => exact h
  | succ k ih =>
    unfold State.skipBanks
    dsimp only
    split
    · split
      · exact h
      · exact ih (Memory.wf_setScrubPtr h ..)
    · exact h

/-- 16 words scrubbed. -/
theorem Memory.wf_scrubRun {s : State} (h : Memory.wf s = true) : Memory.wf s.scrubRun = true := by
  have k := Memory.wf_skipBanks h 8
  unfold State.scrubRun
  dsimp only
  split
  · split
    · exact Memory.wf_skipBanks (Memory.wf_setScrubPtr (Memory.wf_foldl _ (fun _ _ h => Memory.wf_scrubWord h _) _ k) _) 8
    · exact k
  · exact k

theorem Memory.wf_refreshStale {s : State} (h : Memory.wf s = true) : Memory.wf s.refreshStale = true := by
  unfold State.refreshStale
  generalize slowAddrs = l
  have key : storeWf regPor (l.foldl (fun m a => storeWrite regPor m a (s.live a)) s.stale) = true :=
    storeWf_foldl _ (fun _ _ hm => storeWf_storeWrite hm ..) _ (Memory.wf_stale h)
  simp only [Memory.wf, Bool.and_eq_true] at *
  simp only [key, h, and_self]

theorem Memory.wf_ite {c : Prop} [Decidable c] {s t : State} (hs : Memory.wf s = true) (ht : Memory.wf t = true) :
    Memory.wf (if c then s else t) = true := by
  split
  · exact hs
  · exact ht

/-- An erase count with the flags that follow it. -/
theorem Memory.wf_putErases {s : State} (h : Memory.wf s = true) (p k : Nat) : Memory.wf (s.putErases p k) = true := by
  unfold State.putErases
  generalize Nat.min k (2 ^ 18 - 1) = k
  have wear (i j : List Nat) : Memory.wf (s.onMem fun m =>
      { m with wear := storeWrite (fun _ => 0) m.wear p k, infoBad := i, suspect := j }) = true := by
    simp only [Memory.wf, Bool.and_eq_true] at *
    simp only [State.onMem, storeWf_storeWrite, h, and_self]
  have flag {t : State} {c : Prop} [Decidable c] (ht : Memory.wf t = true) (f : Fld) : Memory.wf (if c then t.setFlag f else t) = true :=
    Memory.wf_ite (Memory.wf_setFlag ht f) ht
  exact flag (flag (Memory.wf_ite (Memory.wf_put (wear _ _) ..) (wear _ _)) _) _

/-- A descriptor's commit. -/
theorem Memory.wf_commitDesc {s : State} (h : Memory.wf s = true) (d : Nat) (v : Word) : Memory.wf (s.commitDesc d v) = true := by
  refine Memory.wf_setWord (Memory.wf_commitStaged ?_ ..) ..
  simp only [Memory.wf, Bool.and_eq_true] at *
  simp only [storeWf_storeWrite, h, and_self]

end Sys2Proof.Machine
end

