-- ==== Sys2Proof/Laws/Frames.lean ====
section
/-! SUPPORT. Frames: which parts and registers the shared operations leave alone, and what events and locks read as after them. -/

namespace Sys2Proof.Machine

/-! ## Frames as relations -/

theorem Keeps.refl (but : List Part) (s : State) : Keeps but s s := by
  intro p _
  cases p <;> rfl

theorem Keeps.trans {but : List Part} {s t u : State} (h : Keeps but s t) (k : Keeps but t u) : Keeps but s u := by
  intro p hp
  have := h p hp
  have := k p hp
  cases p <;> simp_all [Part.same]

theorem Keeps.mono {a b : List Part} {s t : State} (h : Keeps a s t) (hab : ∀ p ∈ a, p ∈ b) : Keeps b s t :=
  fun p hp => h p fun ha => hp (hab p ha)

theorem RegsKept.refl (but : List Nat) (s : State) : RegsKept but s s := fun _ _ => rfl

theorem RegsKept.trans {but : List Nat} {s t u : State} (h : RegsKept but s t) (k : RegsKept but t u) : RegsKept but s u :=
  fun a ha => (k a ha).trans (h a ha)

theorem RegsKept.mono {a b : List Nat} {s t : State} (h : RegsKept a s t) (hab : ∀ x ∈ a, x ∈ b) : RegsKept b s t :=
  fun x hx => h x fun ha => hx (hab x ha)

theorem RegsKept.of_regs {but : List Nat} {s t : State} (h : t.regs = s.regs) : RegsKept but s t := fun a _ => by simp only [State.word, h]

/-! ## Register writes -/

theorem Keeps.setBits (s : State) (a : Nat) (m v : Word) : Keeps [.regs, .flips] s (s.setBits a m v) := by
  intro p hp
  cases p <;> first | rfl | exact absurd (by simp) hp

theorem Keeps.put (s : State) (f : Fld) (v : Nat) : Keeps [.regs, .flips] s (s.put f v) := Keeps.setBits s _ _ _

theorem Keeps.setFlag (s : State) (f : Fld) : Keeps [.regs, .flips] s (s.setFlag f) := Keeps.put s _ _

theorem Keeps.bump (s : State) (f : Fld) : Keeps [.regs, .flips] s (s.bump f) := Keeps.put s _ _

theorem RegsKept.setBits {s : State} (h : Memory.wf s = true) (a : Nat) (m v : Word) : RegsKept [a] s (s.setBits a m v) := by
  intro b hb
  rw [State.word_setBits (Memory.wf_regs h), if_neg (by simpa using hb)]

theorem RegsKept.put {s : State} (h : Memory.wf s = true) (f : Fld) (v : Nat) : RegsKept [f.addr] s (s.put f v) := RegsKept.setBits h _ _ _

theorem RegsKept.setFlag {s : State} (h : Memory.wf s = true) (f : Fld) : RegsKept [f.addr] s (s.setFlag f) := RegsKept.put h _ _

theorem RegsKept.bump {s : State} (h : Memory.wf s = true) (f : Fld) : RegsKept [f.addr] s (s.bump f) := RegsKept.put h _ _

/-- The bits of a register that a write does not cover stay. -/
theorem State.word_setBits_bit {s : State} (h : Memory.wf s = true) (a i : Nat) (m v : Word) (hm : m.getLsbD i = false) :
    ((s.setBits a m v).word a).getLsbD i = (s.word a).getLsbD i := by
  rw [State.word_setBits (Memory.wf_regs h), if_pos rfl]
  by_cases hi : i < 18
  · simp only [BitVec.getLsbD_or, BitVec.getLsbD_and, BitVec.getLsbD_not, hm, hi]; simp
  · rw [BitVec.getLsbD_of_ge _ i (by omega), BitVec.getLsbD_of_ge _ i (by omega)]

/-! ## Events (03 R74) -/

theorem Memory.wf_raise {s : State} (h : Memory.wf s = true) (n : Sector) (e : Nat) : Memory.wf (s.raise n e) = true := by
  unfold State.raise
  repeat' split
  all_goals first | exact h | exact Memory.wf_setBits h ..

theorem Keeps.raise (s : State) (n : Sector) (e : Nat) : Keeps [.regs, .flips] s (s.raise n e) := by
  unfold State.raise
  repeat' split
  all_goals first | exact Keeps.refl _ _ | exact Keeps.setBits _ _ _ _

theorem RegsKept.raise {s : State} (h : Memory.wf s = true) (n : Sector) (e : Nat) : RegsKept [A.SEC_EVL n, A.SEC_EVH n] s (s.raise n e) := by
  unfold State.raise
  repeat' split
  all_goals first
    | exact RegsKept.refl _ _
    | exact (RegsKept.setBits h _ _ _).mono (by simp)

/-- An event raised reads as set, unless it is event 31 of sector 0. -/
theorem State.event_raise_self {s : State} (h : Memory.wf s = true) (n : Sector) (e : Nat) (he : e < 32) (hn : n ≠ 0 ∨ e ≠ 31) :
    (s.raise n e).event n e = true := by
  have hc : ¬(n = 0 ∧ e = 31) := by rintro ⟨a, b⟩; exact hn.elim (· a) (· b)
  have bit (i : Nat) (hi : i < 18) (x : Word) : ((x &&& ~~~ BitVec.ofNat 18 (2 ^ i)) ||| (BitVec.allOnes 18 &&& BitVec.ofNat 18 (2 ^ i))).getLsbD i = true := by
    simp only [BitVec.getLsbD_or, BitVec.getLsbD_and, BitVec.getLsbD_allOnes, BitVec.getLsbD_ofNat, Nat.testBit_two_pow_self, hi]; simp
  unfold State.raise
  rw [if_neg hc]
  by_cases h16 : e < 16
  · rw [if_pos h16]
    unfold State.event
    rw [if_pos h16, State.word_setBits (Memory.wf_regs h), if_pos rfl]
    exact bit e (by omega) _
  · rw [if_neg h16, if_pos he]
    unfold State.event
    rw [if_neg h16, if_pos he, State.word_setBits (Memory.wf_regs h), if_pos rfl]
    exact bit (e - 16) (by omega) _

/-- Raising an event leaves every other event of the sector as it was. -/
theorem State.event_raise_other {s : State} (h : Memory.wf s = true) (n : Sector) (e k : Nat) (hk : k ≠ e) :
    (s.raise n e).event n k = s.event n k := by
  have apart : A.SEC_EVL n ≠ A.SEC_EVH n := by simp only [A.SEC_EVL, A.SEC_EVH]; omega
  have bit (i j : Nat) (hij : j ≠ i) : (BitVec.ofNat 18 (2 ^ i)).getLsbD j = false := by
    simp only [BitVec.getLsbD_ofNat, Nat.testBit_two_pow_of_ne (Ne.symm hij), Bool.and_false]
  unfold State.raise
  split
  · rfl
  · split
    · unfold State.event
      split
      · rw [State.word_setBits_bit h _ _ _ _ (bit e k hk)]
      · split
        · rw [State.word_setBits (Memory.wf_regs h), if_neg (Ne.symm apart)]
        · rfl
    · split
      · unfold State.event
        split
        · rw [State.word_setBits (Memory.wf_regs h), if_neg apart]
        · split
          · rw [State.word_setBits_bit h _ _ _ _ (bit (e - 16) (k - 16) (by omega))]
          · rfl
      · rfl

/-! ## Thermos and the log (12 R279 to R281) -/

theorem State.thermosWord_setThermos {s : State} (h : Memory.wf s = true) (a b : Nat) (v : Word) :
    (s.setThermos a v).thermosWord b = if b = a then v else s.thermosWord b := storeRead_storeWrite (Memory.wf_thermos h) ..

theorem Keeps.log (s : State) (cls sec idx code detail : Nat) : Keeps [.mem] s (s.log cls sec idx code detail) := by
  unfold State.log State.logRequest State.setThermos
  split <;> (intro p hp; cases p <;> first | rfl | exact absurd (by simp) hp)

/-- A request joins a queue that has room. -/
theorem State.log_queue {s : State} (h : s.mem.logq.length < 4) (cls sec idx code detail : Nat) :
    (s.log cls sec idx code detail).mem.logq = s.mem.logq ++ [⟨cls, sec, idx, code, BitVec.ofNat 18 detail, s.tick⟩] := by
  simp only [State.log, State.logRequest, h, if_true]

/-! ## Locks (05 R125) -/

/-- A lock given to a sector is held by it. -/
theorem State.holds_giveLock {s : State} (h : Memory.wf s = true) (k : Fin 16) (n : Sector) : (s.giveLock k n).holds n k = true := by
  unfold State.giveLock State.holds
  have h0 : storeWf regPor (s.onLock k fun x =>
      { x with hold := 0, waiters := x.waiters.filter (· ≠ n), tell := s.isSet (F.LOCK_ST_ABAND k) }).regs = true := Memory.wf_regs h
  have h1 := State.regs_wf_put h0 (F.LOCK_ST_HELD k) 1
  have h2 := State.regs_wf_put h1 (F.LOCK_ST_HOLDER k) n
  have h3 := State.regs_wf_put h2 (F.LOCK_ST_HTIME k) 0
  have h4 := State.regs_wf_put h3 (F.LOCK_ST_ABAND k) 0
  have hw : (fLockWait k n).fits = true := decide_eq_true (by simp only [fLockWait]; omega)
  simp only [decide_eq_true_eq]
  refine ⟨?_, ?_⟩
  · rw [State.get_put_apart h4 _ _ hw (by rfl) (decide_eq_true (by simp only [fLockWait, F.LOCK_ST_HELD]; omega)),
      State.get_put_apart h3 _ _ (by rfl) (by rfl) (by simp [F.LOCK_ST_HELD, F.LOCK_ST_ABAND, Fld.apart]),
      State.get_put_apart h2 _ _ (by rfl) (by rfl) (by simp [F.LOCK_ST_HELD, F.LOCK_ST_HTIME, Fld.apart]),
      State.get_put_apart h1 _ _ (by rfl) (by rfl) (by simp [F.LOCK_ST_HELD, F.LOCK_ST_HOLDER, Fld.apart]),
      State.get_put_self h0 _ (by rfl)]
    rfl
  · rw [State.get_put_apart h4 _ _ hw (by rfl) (decide_eq_true (by simp only [fLockWait, F.LOCK_ST_HOLDER]; omega)),
      State.get_put_apart h3 _ _ (by rfl) (by rfl) (by simp [F.LOCK_ST_HOLDER, F.LOCK_ST_ABAND, Fld.apart]),
      State.get_put_apart h2 _ _ (by rfl) (by rfl) (by simp [F.LOCK_ST_HOLDER, F.LOCK_ST_HTIME, Fld.apart]),
      State.get_put_self h1 _ (by rfl)]
    exact Nat.mod_eq_of_lt n.isLt

end Sys2Proof.Machine
end

