-- ==== Sys2Proof/Laws/Issue.lean ====
section
/-! SUPPORT. What an issue cycle does when nothing disturbs the running segment: one equation for a syllable issued alone, one for the end
of a cycle with a single result in flight. -/

namespace Sys2Proof.Machine

theorem RunSeg.slotNow_eq_none {g : RunSeg} {k : Nat} (hk : 0 < k) (h : ∀ o ∈ g.seg.slots, o.ofs < g.cyc ∨ g.cyc + k ≤ o.ofs) :
    g.slotNow = none := by
  simp only [RunSeg.slotNow, List.find?_eq_none, decide_eq_true_eq]
  intro o ho e
  rcases h o ho with h | h <;> omega

theorem Undisturbed.mono {s : State} {g : RunSeg} {j k : Nat} (h : Undisturbed s g k) (hj : j ≤ k) : Undisturbed s g j :=
  ⟨h.runs, h.live, h.going, fun o ho => by rcases h.slots o ho with e | e <;> omega, h.flights, h.copies⟩

/-- A syllable issued alone has its effect, and the cycle ends. -/
theorem issueAlone_undisturbed {s : State} {g : RunSeg} {k : Nat} (h : Undisturbed s g (k + 1)) (f : Sector → State → State) :
    issueAlone f s = (f g.sec s).closeBundle := by
  have e : s.setSeg g = s := by
    have := h.runs
    obtain ⟨⟩ := s
    simp only at this
    simp only [State.setSeg, ← this]
  have e2 : s.copyCycle = s := by
    have := h.copies
    simp only [State.copyCycle, this, List.foldl]
    simp only [← this]
  have hs : g.slotNow = none := RunSeg.slotNow_eq_none (Nat.succ_pos k) h.slots
  simp [issueAlone, h.runs, RunSeg.held, h.live, State.leaveSlot, leaveSlots, hs, e, e2]

@[simp] theorem RunSeg.advance_sec (g : RunSeg) : g.advance.sec = g.sec := rfl
@[simp] theorem RunSeg.advance_seg (g : RunSeg) : g.advance.seg = g.seg := rfl
@[simp] theorem RunSeg.advance_kill (g : RunSeg) : g.advance.kill = g.kill := rfl
@[simp] theorem RunSeg.advance_ending (g : RunSeg) : g.advance.ending = g.ending := rfl
@[simp] theorem RunSeg.advance_cyc (g : RunSeg) : g.advance.cyc = g.cyc + 1 := rfl

/-- The end of a cycle in which nothing is in flight. -/
theorem closeBundle_none {s : State} {g : RunSeg} (hr : s.eng.cur = some g) (hk : g.kill = false) (he : g.ending = false)
    (hf : s.eng.flights = []) : s.closeBundle = s.issued g 1 id := by
  obtain ⟨_, _, _, _, _, eng, _⟩ := s
  obtain ⟨cur, _, _, flights, _⟩ := eng
  simp only at hr hf
  subst hr hf
  simp [State.closeBundle, State.endCycle, State.onSec, State.setSeg, hk, he, State.issued, RunSeg.advanced]

/-- What the reads of a load in flight tell is without effect. -/
def Dest.quiet : Dest → Prop
  | .wLoad _ _ k => k = .clean
  | .aLoad _ _ hi lo => hi = .clean ∧ lo = .clean
  | _ => True

/-- The end of a cycle with one result in flight, a load's from undamaged words in window: due, it is written; else it comes one cycle
nearer. -/
theorem closeBundle_one {s : State} {g : RunSeg} (hr : s.eng.cur = some g) (hk : g.kill = false) (he : g.ending = false) (fl : Flight)
    (hf : s.eng.flights = [fl]) (hsec : fl.sec = g.sec) (hq : fl.dest.quiet) :
    let u : State := { s with eng := { s.eng with flights := [] } }
    s.closeBundle = if fl.rem ≤ 1 then
        (match fl.dest with
        | .w d v => (u.issued g 1 (·.wrW d v)).flagged fl.sat (F.SEQ_FLAG_SAT g.sec)
        | .a d v => u.issued g 1 (·.wrA d v)
        | .wLoad d v _ => u.issued g 1 (·.wrW d v)
        | .aLoad d v _ _ => u.issued g 1 (·.wrA d v)
        | .p d v => u.issued g 1 (·.wrP d v)
        | .curve d v k => ((u.setLastv k v).issued g 1 (·.wrW d v)).flagged fl.sat (F.SEQ_FLAG_SAT g.sec)
        | .accum d v =>
          let r := sat48 ((s.secs[g.sec].rdA d).toInt + v)
          (u.issued g 1 (·.wrA d r.1)).flagged r.2 (F.SEQ_FLAG_AOV g.sec))
      else
        let w := u.issued g 1 id
        { w with eng := { w.eng with flights := [{ fl with rem := fl.rem - 1 }] } } := by
  obtain ⟨_, _, _, _, _, eng, _, secs, _⟩ := s
  obtain ⟨cur, _, _, flights, _⟩ := eng
  obtain ⟨sec, rem, dest, sat⟩ := fl
  simp only at hr hf hsec
  subst hr hf hsec
  by_cases hl : rem ≤ 1
  · have h2 : ¬ 1 < rem := by omega
    cases dest <;> simp only [State.closeBundle, State.endCycle, landFlight, hl, h2, List.filter_cons, List.filter_nil, decide_true,
      decide_false, if_true, List.foldl, List.map, Bool.false_eq_true, if_false]
    · cases sat <;>
        simp [State.onSec, State.setSeg, hk, he, State.issued, RunSeg.advanced, State.flagged, State.setFlag, State.put, State.setBits,
          State.word]
    · simp [State.onSec, State.setSeg, hk, he, State.issued, RunSeg.advanced]
    · obtain rfl := hq
      simp [State.noteRead, State.onSec, State.setSeg, hk, he, State.issued, RunSeg.advanced]
    · obtain ⟨rfl, rfl⟩ := hq
      simp [State.noteRead, State.onSec, State.setSeg, hk, he, State.issued, RunSeg.advanced]
    · simp [State.onSec, State.setSeg, hk, he, State.issued, RunSeg.advanced]
    · next d v =>
      by_cases hb : (sat48 ((secs[g.sec].rdA d).toInt + v)).2 = true
      all_goals simp at hb
      all_goals simp [State.onSec, State.setSeg, hk, he, State.issued, RunSeg.advanced, State.flagged, State.setFlag, State.put,
          State.setBits, State.word, hb]
    · cases sat <;>
        simp [State.setLastv, State.setCurve, State.onSec, State.setSeg, hk, he, State.issued, RunSeg.advanced, State.flagged, State.setFlag,
          State.put, State.setBits, State.word]
  · have h2 : 1 < rem := by omega
    simp only [State.closeBundle, State.endCycle, hl, h2, List.filter_cons, List.filter_nil, decide_true, decide_false, if_true,
      List.foldl, List.map, Bool.false_eq_true, if_false]
    simp [State.onSec, State.setSeg, hk, he, State.issued, RunSeg.advanced]

end Sys2Proof.Machine
end

