-- ==== Sys2Proof/Tests/Slice0.lean ====
section
/-! SUPPORT. Tests of the model: ill-formed commands are refused, small worked cases of spec/, and for every statement with hypotheses a
state and operands that meet them. -/

namespace Sys2Proof.Machine

theorem test_reset_canonical : Memory.wf State.reset = true := by decide

/-! ## States the tests start from -/

/-- Register fields put at values. -/
def Test.put (s : State) (l : List (Fld × Nat)) : State := l.foldl (fun s f => s.put f.1 f.2) s

/-- Domains that are ON. -/
def Test.on (s : State) (l : List Dom) : State := l.foldl (fun s d => s.setDom d { state := .on }) s

/-- A general register of sector 0. -/
def Test.w (s : State) (r : Fin 16) (v : Word) : State := s.onSec 0 fun x => x.wrW r v

/-- Sector n holds lock k. -/
def Test.lock (s : State) (k n : Nat) : State := Test.put s [(F.LOCK_ST_HELD k, 1), (F.LOCK_ST_HOLDER k, n)]

/-- A segment of sector n at its first cycle, 100 cycles long, with the given open slots. -/
def Test.segOf (n : Sector) (slots : List OpenSlot) : RunSeg :=
  ⟨n, 0, 0, 0, ⟨0, 0, 100, 0, slots⟩, 0, 0, 0, [], false, false, false, false⟩

/-- Sector n runs that segment, without slots. -/
def Test.runIn (n : Sector) (s : State) : State := { s with eng := { cur := some (Test.segOf n []), imem := s.eng.imem } }

def Test.run (s : State) : State := Test.runIn 0 s

/-- CORE, instruction memory and bank 0 ON, sector 0 running the segment. -/
def Test.busy : State := Test.run (Test.on State.reset [.core, .imem, .hb 0])

/-- Nothing disturbs the segment of a state so built. -/
theorem Test.undisturbed (n : Sector) (s : State) (k : Nat) : Undisturbed (Test.runIn n s) (Test.segOf n []) k :=
  ⟨rfl, rfl, rfl, fun _ h => absurd h List.not_mem_nil, rfl, rfl⟩

/-! ## Ill-formed commands are refused -/

theorem test_wf_scrub : (Instr.scrubBooking [(65536, .single)]).wf = false := by decide

theorem test_wf_tmr : (Instr.tmrCorrection [(4096, 1, 0, 0)]).wf = false := by decide

theorem test_wf_sample : (Instr.sampleBoundary 0 [] {}).wf = false := by decide

/-- One word counted, two bytes sent. -/
def Test.head (a : BitVec 16) : HostHead := ⟨0, 0, a, 1, 0, false⟩

theorem test_wf_host_data : ∀ c ∈ [Instr.wrreg (Test.head 0) [1, 2] 0, .wrmem (Test.head 0) [1, 2] 0, .echo (Test.head 0) [1, 2] 0,
    .imgldWrite (Test.head 0) [1, 2] 0], c.wf = false := by decide

/-- Image operations and STATUS rows whose ADDR does not carry their action. -/
theorem test_wf_host_action : ∀ c ∈ [Instr.imgldWrite (Test.head 0x2000) [1, 2, 3] 0, .imgldErase (Test.head 0), .imgldLoad (Test.head 0x2000),
    .release (Test.head 2), .abort (Test.head 1)], c.wf = false := by decide

theorem test_wf_link : ∀ c ∈ [Instr.hbReceived ⟨0, 0, 0⟩ (List.replicate 64 0), .msgReceived ⟨0, 0, 0⟩ (List.replicate 64 0),
    .mirReceived ⟨0, 0, 0⟩ (List.replicate 64 0), .shdReceived ⟨0, 0, 0⟩ (List.replicate 64 0), .trainReceived (List.replicate 64 0)],
    c.wf = false := by decide

/-- The longest image a length field can name is refused one byte later. -/
theorem test_wf_image (l : List Byte) (h : l.length = 2 ^ 32) : (Instr.imageLoad 0 l).wf = false := by simp [Instr.wf, h]

/-! ## Worked cases of spec/ -/

/-- 04, worked case: syllables crv w4, w2, w5; addi w5, w0, #8; ld w2, [w1+0]; lkr 0, and bundle c0 as stored. -/
theorem test_syllables : ∀ x ∈ [((0x3A425 : Word), 0x3A, 4, 2, 5), (0x03508, 3, 5, 0, 8), (0x24210, 0x24, 2, 1, 0), (0x3C000, 0x3C, 0, 0, 0)],
    sylOp x.1 = x.2.1 ∧ sylD x.1 = x.2.2.1 ∧ sylA x.1 = x.2.2.2.1 ∧ sylB x.1 = x.2.2.2.2 := by decide

theorem test_bundle_c0 : let v := splitBundle (BitVec.ofNat 80 (beNat [0x00, 0x0D, 0x42, 0x00, 0x00, 0x09, 0x08, 0x43, 0xC0, 0x00]))
    v.slotA = 0x03508 ∧ v.slotK = 0 ∧ v.slotM = 0x24210 ∧ v.slotX = 0x3C000 ∧ v.pred = 0 ∧ v.neg = false ∧ v.pair = 0 ∧ v.endBit = false := by decide

/-- 13, worked case: the WRREG with KEYPFX. Header CRC F4h, data CRC 23h, status 60 00 01 00 with CRC 91h. -/
def Test.wrreg : Instr := .wrreg ⟨0, 0, 0x4688, 2, 0xF4, false⟩ [0x02, 0xC3, 0xA5, 0x00, 0x20, 0x08] 0x23

/-- What a command's next state shows, or a value of its own where there is none. -/
def Test.after {α : Type} (c : Instr) (s : State) (f : State → α) (other : α) : α := match exec c s with | .next t => f t | _ => other

def Test.port : State := Test.put (Test.on State.reset [.host, .core]) [(F.SEC_CTL_STATE 0, 1)]

theorem test_wrreg_accepted : Test.after Test.wrreg Test.port (fun t => (t.host.ack, t.host.state, t.host.txn.words)) (9, 9, []) =
    (0, 1, [0x2C3A5, 0x02008]) := by decide +kernel

/-- The booking of 12 cycles writes OUT_DISP through the key and leaves the key disarmed. -/
theorem test_wrreg_served : Test.after .hostBooking { Test.port with
      eng := { cur := some (Test.segOf 0 [⟨1, 0, 64⟩]) }
      host := { state := 1, txn := { op := 2, addr := 0x4688, cnt := 2, words := [0x2C3A5, 0x02008] } } }
    (fun t => (t.host.state, t.word A.OUT_DISP, t.armed, t.secs[0].used)) (9, 0, true, 0) = (2, 0x02008, false, 12) := by decide +kernel

theorem test_status_released : Test.after (.release ⟨0, 0, 1, 0, 0x91, false⟩) { Test.port with
      host := { state := 2, txn := { op := 2, addr := 0x4688, cnt := 2, served := 2 } } }
    (fun t => (t.host.state, t.host.out)) (9, []) = (0, [0x00, 0x82, 0x00, 0x00, 0x0C]) := by decide +kernel

/-- 18, worked case: the CRC of RDREG header 10 03 0C 18 is BFh. -/
theorem test_rdreg_crc : crc8 [0x10, 0x03, 0x0C, 0x18] = 0xBF := by decide +kernel

/-- 14 R319: the check value of the frame CRC. -/
theorem test_crc16 : crcMsb (0x1021 : BitVec 16) 0xFFFF [0x31, 0x32, 0x33, 0x34, 0x35, 0x36, 0x37, 0x38, 0x39] = 0x29B1 := by decide +kernel

/-- 09, worked case, profile 5: S1, the moving average, and the rounding of the ideal value. -/
theorem test_profile5 : narrow 149414062 12 false = (36478, false) ∧ narrow (912025 * 184453) 21 false = (80216, false) := by decide +kernel

/-- 10, worked case: curve 0 with P0 = 78,125, P1 = −25,000 and P2 = 16 gives 70,625. -/
theorem test_curve0 : (roundShift ((80216 : Int) * 78125) 16) + -25000 = 70625 := by decide +kernel

/-- 10, worked case: curves 17 and 14 of Pell Hill (W2 23100h and 1DF00h), and the 21 mA reading that curve 14 clamps. -/
theorem test_geometry :
    let level (u : Int) := geometryCurve { w2 := 0x23100 } (fun k => [(0x18682 : Word), 0x17F3C, 0x0003E, 0x3FFCE].getD k 0) u
    let volume (u : Int) := geometryCurve { w2 := 0x1DF00 } (fun k => [(0x004B0 : Word), 0x02328, 0x00031, 0].getD k 0) u
    level 70625 = ⟨57351, false, false⟩ ∧ volume 57351 = ⟨63623, false, false⟩ ∧ volume (level 106250).v.toInt = ⟨81430, true, false⟩ := by
  decide +kernel

/-- 16, worked case: SYS_BOOT with slot B, FALLBK and code 05h reads 0A0A0h. -/
theorem test_sys_boot : (Test.put State.reset [(F.SYS_BOOT_SLOT, 2), (F.SYS_BOOT_FALLBK, 1), (F.SYS_BOOT_FCODE, 5)]).word A.SYS_BOOT = 0x0A0A0 := by
  decide

/-- 17, worked case: PIN_GP5 ← 14000h is EDGE rising, PULL down, FUNC IN. -/
theorem test_pin_gp5 : Test.after (.gpFuncWrite (.prog 0) 5 0x14000) (Test.on State.reset [.core])
    (fun t => (t.get (F.PIN_GP_EDGE 5), t.get (F.PIN_GP_PULL 5), t.get (F.PIN_GP_FUNC 5))) (9, 9, 9) = (1, 1, 0) := by decide +kernel

/-- RFC 4493, example 1: AES-CMAC of the empty message. -/
theorem test_cmac : aesCmac [0x2b, 0x7e, 0x15, 0x16, 0x28, 0xae, 0xd2, 0xa6, 0xab, 0xf7, 0x15, 0x88, 0x09, 0xcf, 0x4f, 0x3c] [] =
    [0xbb, 0x1d, 0x69, 0x29, 0xe9, 0x59, 0x37, 0x28, 0x7f, 0xa3, 0x7d, 0x12, 0x9b, 0x75, 0x67, 0x46] := by decide +kernel

/-! ## States and operands that meet the hypotheses of the statements -/

theorem witness_StepRunsFrontCommand : ({ State.reset with pending := [.nop] } : State).pending = .nop :: [] := rfl

theorem witness_StepKeepsMemoryCanonical : Memory.wf Test.busy = true ∧ ∃ t, step { Test.busy with pending := [.nop] } = .next t :=
  ⟨by decide, _, rfl⟩

theorem witness_ZeroRegisters : (15 : Fin 16) ≠ 0 ∧ (7 : Fin 8) ≠ 0 := by decide

/-- The statements about slot A, slot K, EVT and EVW, the lane commands without a grant. -/
theorem witness_SlotAWrapping : Undisturbed Test.busy (Test.segOf 0 []) 1 := Test.undisturbed ..

theorem witness_SlotASaturating : Undisturbed Test.busy (Test.segOf 0 []) 1 := Test.undisturbed ..

theorem witness_SlotAPredicates : Undisturbed Test.busy (Test.segOf 0 []) 1 := Test.undisturbed ..

theorem witness_SlotKAccumulators : Undisturbed Test.busy (Test.segOf 0 []) 3 := Test.undisturbed ..

theorem witness_SlotKExtracts : Undisturbed Test.busy (Test.segOf 0 []) 3 := Test.undisturbed ..

/-- The last two words of bank 0. -/
theorem witness_LoadsInWindow : let s := Test.run (Test.w Test.busy 1 8190)
    Undisturbed s (Test.segOf 0 []) 2 ∧ s.inWindow 0 ((s.secs[0].rdW 1 + 0).toNat) = some 8190 ∧ s.hamperUpset 8190 = .none ∧
      s.inWindow 0 (s.secs[0].rdW 1).toNat = some 8190 ∧ s.inWindow 0 ((s.secs[0].rdW 1 + 0 + 1).toNat) = some 8191 ∧ s.hamperUpset 8191 = .none :=
  ⟨Test.undisturbed .., by decide⟩

theorem witness_StoresInWindow : let s := Test.run (Test.w Test.busy 1 8190)
    Undisturbed s (Test.segOf 0 []) 1 ∧ Memory.wf s = true ∧ s.inWindow 0 ((s.secs[0].rdW 1 + 0).toNat) = some 8190 ∧
      s.inWindow 0 ((s.secs[0].rdW 1 + 0 + 1).toNat) = some 8191 :=
  ⟨Test.undisturbed .., by decide⟩

/-- The first words of a bank that is not ON. -/
theorem witness_WindowMiss : let s := Test.run (Test.w Test.busy 1 8192)
    Undisturbed s (Test.segOf 0 []) 2 ∧ Memory.wf s = true ∧ s.inWindow 0 ((s.secs[0].rdW 1 + 0).toNat) = none ∧
      s.inWindow 0 ((s.secs[0].rdW 1 + 0 + 1).toNat) = none ∧ s.inWindow 0 (s.secs[0].rdW 1).toNat = none :=
  ⟨Test.undisturbed .., by decide⟩

theorem witness_BranchesRedirect : let s := Test.run (Test.busy.onSec 0 fun x => { x with stack := [8191] })
    Undisturbed s (Test.segOf 0 []) 3 ∧ (Test.segOf 0 []).redirects = [] ∧ s.secs[0].stack = 8191 :: [] ∧
      Undisturbed Test.busy (Test.segOf 0 []) 3 ∧ Test.busy.secs[0].stack = [] :=
  ⟨Test.undisturbed .., rfl, rfl, Test.undisturbed .., rfl⟩

theorem witness_SegmentEnds : Undisturbed Test.busy (Test.segOf 0 []) 1 ∧ Memory.wf Test.busy = true ∧ (Test.segOf 0 []).cancel = false :=
  ⟨Test.undisturbed .., by decide, rfl⟩

theorem witness_EventSyllables : Undisturbed Test.busy (Test.segOf 0 []) 2 ∧ Memory.wf Test.busy = true :=
  ⟨Test.undisturbed .., by decide⟩

theorem witness_AliasesActAlike : resolve 0xC10 = resolve 0x010 ∧ Memory.wf State.reset = true ∧
    (State.reset.readReg (.host 0) 0xFFF).denied = false ∧ (State.reset.readReg (.host 0) 0xC00).denied = false ∧
    Memory.wf (Test.on State.reset [.core]) = true ∧ (Test.on State.reset [.core]).isOn .core = true := by decide

theorem witness_ReservedAddresses : let s := Test.run (Test.w Test.busy 1 0xBFF)
    (Memory.wf s = true ∧ s.isOn .core = true ∧ State.reset.isOn .core = false) ∧ regAt (resolve 0xBFF) = none ∧
      Undisturbed s (Test.segOf 0 []) 2 ∧ regAt (resolve ((s.secs[0].rdW 1 + 0).setWidth 12)) = none :=
  ⟨by decide, by decide, Test.undisturbed .., by decide⟩

/-- A register the sector may read and write, one that only another sector's program may read, LANE_CTL of a granted lane, CORE OFF. -/
theorem witness_RegisterSyllables : let s := Test.run (Test.w Test.busy 1 (BitVec.ofNat 18 (A.SEC_QOS 0)))
    let u := Test.runIn 2 (Test.busy.onSec 2 fun x => x.wrW 1 (BitVec.ofNat 18 (A.FL_RES 1)))
    let l := Test.run (Test.w Test.busy 1 (BitVec.ofNat 18 (A.LANE_CTL 3)))
    let off := Test.run State.reset
    (Undisturbed l (Test.segOf 0 []) 2 ∧ (Memory.wf l = true ∧ l.isOn .core = true ∧
      resolve ((l.secs[0].rdW 1 + 0).setWidth 12) = A.LANE_CTL (3 : LaneId) ∧ l.hasLane 0 3 = true) ∧
      Undisturbed off (Test.segOf 0 []) 2 ∧ Memory.wf off = true ∧ off.isOn .core = false) ∧
    Undisturbed s (Test.segOf 0 []) 2 ∧ Memory.wf s = true ∧
      (∃ r ix, regAt (resolve ((s.secs[0].rdW 1 + 0).setWidth 12)) = some (r, ix) ∧ r.reader ≠ .nobody ∧
        s.mayAs (.prog 0) r.reader r.base (ix.headD 0) = true) ∧
      (∃ t, exec (.registerWrite (.prog 0) ((s.secs[0].rdW 1 + 0).setWidth 12) (s.secs[0].rdW 2)) s = .next t ∧ t.eng = s.eng) ∧
      Undisturbed u (Test.segOf 2 []) 2 ∧
      ∃ r ix, regAt (resolve ((u.secs[2].rdW 1 + 0).setWidth 12)) = some (r, ix) ∧ r.reader ≠ .nobody ∧
        u.mayAs (.prog 2) r.reader r.base (ix.headD 0) = false :=
  ⟨⟨Test.undisturbed .., by decide, Test.undisturbed .., by decide⟩, Test.undisturbed .., by decide, ⟨_, _, rfl, by decide, by decide⟩,
    ⟨_, rfl, by decide⟩, Test.undisturbed .., _, _, rfl, by decide, by decide⟩

/-- A bundle whose predicate fails, and one that holds ADD in slot A alone. -/
theorem witness_BundleIssues :
    let withB := fun v => Test.run { Test.put Test.busy [(F.SEC_IMEM_IEN 0, 1)] with eng := { imem := [(0, v)] } }
    let idle : Bundle := BitVec.ofNat 80 (2 ^ 76)
    let add : Bundle := BitVec.ofNat 80 (0x01231 * 2 ^ 54)
    let off := Test.run (Test.put Test.busy [(F.SEC_IMEM_IEN 0, 0)])
    let ret := Test.run (Test.put (Test.on State.reset [.core]) [(F.SEC_IMEM_IEN 0, 1)])
    (Undisturbed ret (Test.segOf 0 []) 1 ∧ ret.fetchAddr 0 0 = some 0 ∧ ret.isOn .imem = false) ∧
    ((withB idle).isOn .imem = true ∧ (withB add).isOn .imem = true) ∧ (Undisturbed off (Test.segOf 0 []) 1 ∧ off.fetchAddr 0 0 = none) ∧
    (Undisturbed (withB idle) (Test.segOf 0 []) 1 ∧ (withB idle).fetchAddr 0 0 = some 0 ∧
      storeRead (fun _ => Upset.none) (withB idle).eng.imemUpset 0 = .none ∧ (splitBundle ((withB idle).bundleAt 0)).endBit = false ∧
      (splitBundle ((withB idle).bundleAt 0)).runs (withB idle).secs[0] = false) ∧
    Undisturbed (withB add) (Test.segOf 0 []) 1 ∧ (withB add).fetchAddr 0 0 = some 0 ∧ (splitBundle ((withB add).bundleAt 0)).endBit = false ∧
      (splitBundle ((withB add).bundleAt 0)).runs (withB add).secs[0] = true ∧ (splitBundle ((withB add).bundleAt 0)).pair = 0 ∧
      (splitBundle ((withB add).bundleAt 0)).slotK = 0 ∧ (splitBundle ((withB add).bundleAt 0)).slotM = 0 ∧
      (splitBundle ((withB add).bundleAt 0)).slotX = 0 ∧ sylOp (splitBundle ((withB add).bundleAt 0)).slotA = 1 :=
  ⟨⟨Test.undisturbed .., by decide⟩, by decide, ⟨Test.undisturbed .., by decide⟩, ⟨Test.undisturbed .., by decide⟩, Test.undisturbed .., by decide⟩

/-- A lane whose queue has one place left; `lmode` to CAL of the last descriptor. -/
theorem witness_LaneCommandsQueue : let s := Test.run (Test.w (Test.lock (Test.busy.onLane 3 fun x => { x with queue := [.trig, .trig, .trig] }) 7 0) 1 63)
    Undisturbed s (Test.segOf 0 []) 1 ∧ s.hasLane 0 (laneIx 15) = true ∧ s.lanes[laneIx 15].queue.length < 4 ∧ s.laneTimeOut (laneIx 15) = false ∧
      (9 : Fin 16).val < 12 ∧ s.hasDesc 0 ((s.secs[0].rdW 1).toNat % 64) = true ∧ s.holds 0 7 = true :=
  ⟨Test.undisturbed .., by decide⟩

theorem witness_FifoPops : let s := Test.run (Test.busy.onLane 3 fun x => { x with fifo := [⟨0x20000, 5⟩] })
    Undisturbed s (Test.segOf 0 []) 2 ∧ s.hasLane 0 (laneIx 3) = true ∧ s.lanes[laneIx 3].fifo = ⟨0x20000, 5⟩ :: [] :=
  ⟨Test.undisturbed .., by decide⟩

/-- A guest without grants. -/
theorem witness_NotGranted : let s := Test.runIn 3 Test.busy
    Undisturbed s (Test.segOf 3 []) 1 ∧ Memory.wf s = true ∧ s.hasLane 3 (laneIx 15) = false ∧ (11 : Fin 16).val < 12 ∧
      (∀ k : Fin 16, s.hasUnit 3 k = false) ∧ s.hasDesc 3 ((s.secs[3].rdW 0).toNat % 64) = false :=
  ⟨Test.undisturbed .., by decide⟩

/-- A source word refused (PIN equal to RTN), one taken while a lane's window names the source, and one in force at once; the same for VEXC
and a TIA, whose word clashes with the other TIA's loop pin. -/
theorem witness_ExcitationWords : let s := Test.run (Test.put (Test.lock (Test.lock (Test.lock Test.busy 3 0) 4 0) 6 0) [(F.TIA_CTL_EN 0, 1), (F.TIA_CTL_LP 0, 2)])
    let u := Test.run ((Test.put s [(F.VEXC_CTL_PULSE, 1)]).onLane 0 fun x => { x with window := some ⟨0x37000, 8, 0, 0⟩ })
    Undisturbed s (Test.segOf 0 []) 1 ∧ Memory.wf s = true ∧ s.hasUnit 0 3 = true ∧ s.holds 0 3 = true ∧ s.hasUnit 0 4 = true ∧ s.holds 0 4 = true ∧
      s.hasUnit 0 6 = true ∧ s.holds 0 6 = true ∧ s.iexcRefused 0 3 0x20000 = true ∧ s.iexcRefused 0 3 0x200F8 = false ∧ s.unitBusy 3 = false ∧
      s.unitBusy 4 = false ∧ (s.isSet (F.TIA_CTL_EN 0) && decide (s.get (F.TIA_CTL_LP 0) = bits 0x20800 11 10)) = true ∧
      (decide (s.get (F.TIA_CTL_LP 0) = bits 0x20C00 11 10) = false ∧ s.unitBusy 6 = false ∧
        (Test.put (Test.on s [.tia]) [(F.TIA_CTL_EN 1, 1)]).tiaPin 1 ≠ none) ∧ u.unitBusy 3 = true ∧
      u.holds 0 3 = true :=
  ⟨Test.undisturbed .., by decide⟩

/-- A flag that stands and one that does not; units enabled, and none. -/
theorem witness_FrontEndFlags :
    let on := Test.put (Test.on State.reset [.tia]) [(F.IEXC_CTL_EN 2, 1), (F.IEXC_CTL_LIFT 2, 1), (F.VEXC_CTL_EN, 1), (F.TIA_CTL_EN 1, 1)]
    Memory.wf State.reset = true ∧ State.reset.isSet (clampFlag 31) = false ∧ (Test.put State.reset [(clampFlag 27, 1)]).isSet (clampFlag 27) = true ∧
      Memory.wf on = true ∧ on.isSet (F.IEXC_CTL_EN 2) = true ∧ on.isSet (F.IEXC_CTL_LIFT 2) = true ∧ on.isSet F.VEXC_CTL_EN = true ∧
      (on.isSet (F.TIA_CTL_EN 1) && on.settledOn .tia) = true ∧ (∀ u : Fin 4, State.reset.isSet (F.IEXC_CTL_EN u) = false) ∧
      State.reset.isSet F.VEXC_CTL_EN = false ∧ (State.reset.isSet (F.TIA_CTL_EN 1) && State.reset.settledOn .tia) = false := by decide

/-- A free lock, one the sector holds, one it awaits, one another sector holds. -/
theorem witness_LockRequests :
    let wait (l : List Sector) (s : State) : State := s.onLock 13 fun x => { x with waiters := l }
    let a := Test.run Test.busy
    let b := Test.run (Test.lock Test.busy 13 0)
    let c := Test.run (wait [2, 0] (Test.lock Test.busy 13 1))
    let d := Test.run (wait [2] (Test.lock Test.busy 13 1))
    ((∀ s ∈ [a, b, c, d], Memory.wf s = true ∧ s.hasUnit 0 13 = true) ∧ a.lockHeld 13 = false ∧ b.holds 0 13 = true ∧
      (c.lockHeld 13 = true ∧ c.lockHolder 13 ≠ 0 ∧ 0 ∈ c.locks[13].waiters) ∧ (d.lockHeld 13 = true ∧ d.lockHolder 13 ≠ 0 ∧ 0 ∉ d.locks[13].waiters)) ∧
      Undisturbed a (Test.segOf 0 []) 2 ∧ Undisturbed b (Test.segOf 0 []) 2 ∧ Undisturbed c (Test.segOf 0 []) 2 ∧ Undisturbed d (Test.segOf 0 []) 2 :=
  ⟨by decide, Test.undisturbed .., Test.undisturbed .., Test.undisturbed .., Test.undisturbed ..⟩

/-- No waiter; three waiters of which the second asked first with the highest priority; a waiter; a stranger. -/
theorem witness_LockReleases :
    let wait (l : List Sector) (s : State) : State := s.onLock 13 fun x => { x with waiters := l }
    let a := Test.run (Test.lock Test.busy 13 0)
    let b := Test.run (wait [1, 2, 3] (Test.put (Test.lock Test.busy 13 0) [(⟨A.LOCK_PRI, 3, 2⟩, 1), (⟨A.LOCK_PRI, 5, 4⟩, 3), (⟨A.LOCK_PRI, 7, 6⟩, 3)]))
    let c := Test.run (wait [2, 0] (Test.lock Test.busy 13 1))
    let d := Test.run (Test.lock Test.busy 13 1)
    let pri (m : Sector) : Nat := (b.word A.LOCK_PRI).toNat / 4 ^ m.val % 4
    ((∀ s ∈ [a, b, c, d], Memory.wf s = true ∧ s.hasUnit 0 13 = true ∧ s.cal.active = none) ∧ (a.holds 0 13 = true ∧ a.locks[13].waiters = []) ∧
      (b.holds 0 13 = true ∧ b.locks[13].waiters = [1] ++ 2 :: [3] ∧ (∀ w ∈ [(1 : Sector)], pri w < pri 2) ∧ ∀ w ∈ [(3 : Sector)], pri w ≤ pri 2) ∧
      (c.holds 0 13 = false ∧ 0 ∈ c.locks[13].waiters) ∧ (d.holds 0 13 = false ∧ 0 ∉ d.locks[13].waiters)) ∧
      Undisturbed a (Test.segOf 0 []) 1 ∧ Undisturbed b (Test.segOf 0 []) 1 ∧ Undisturbed c (Test.segOf 0 []) 1 ∧ Undisturbed d (Test.segOf 0 []) 1 :=
  ⟨by decide, Test.undisturbed .., Test.undisturbed .., Test.undisturbed .., Test.undisturbed ..⟩

/-- Curves 0, 18, 23 and 24 (with lock 15 held) in the last descriptor. -/
theorem witness_CurveSyllable : let s := fun c => Test.run (Test.w (Test.lock (Test.put Test.busy [(⟨A.DESC_W0 63 + 2, 17, 13⟩, c)]) 15 0) 2 63)
    (∀ c ∈ [0, 18, 23, 24, 31], Memory.wf (s c) = true ∧ (s c).hasDesc 0 (((s c).secs[0].rdW 2).toNat % 64) = true ∧ ((s c).descWords 63).curve = c ∧
      (s c).lockHeld 15 = true) ∧ Undisturbed (s 0) (Test.segOf 0 []) 1 :=
  ⟨by decide, Test.undisturbed ..⟩

/-- A reserved kind refused; a SGAIN-like request of two sources with their locks held, taken as the last of three. -/
theorem witness_CalibrationRequests :
    let base := Test.lock (Test.lock (Test.lock Test.busy 7 0) 2 0) 3 0
    let r := calRequest 0 0x1F800
    let s := Test.run (Test.w { base with cal := { base.cal with queue := [r, r] } } 1 0x1F800)
    let u := Test.run (Test.w base 1 0x38000)
    Undisturbed s (Test.segOf 0 []) 2 ∧ Undisturbed u (Test.segOf 0 []) 2 ∧ Memory.wf s = true ∧ s.hasUnit 0 7 = true ∧ s.holds 0 7 = true ∧
      s.hasLane 0 r.lane = true ∧ r.kind = 3 ∧ 2 ≤ (maskSources r.mask).length ∧ s.cal.queue.length < 3 ∧
      (∀ k ∈ r.locks, s.holds 0 k = true) ∧ u.calRefusal (calRequest 0 (u.secs[0].rdW 1)) = some 5 ∧
      (calRequest 0 (u.secs[0].rdW 1)).kind = 7 ∧ u.hasLane 0 (calRequest 0 (u.secs[0].rdW 1)).lane = true :=
  ⟨Test.undisturbed .., Test.undisturbed .., by decide⟩

/-- A CAL slot of 416 cycles (256 and the tail of 160); a background measurement that ends; a record with room in the flash queue. -/
theorem witness_CalibrationEngine :
    let r : CalReq := calRequest 0 0x00000
    let base := Test.on State.reset [.core, .lane 0]
    let s : State := { base.onLane 0 fun x => { x with mode := 1 } with
      eng := { cur := some (Test.segOf 0 [⟨16, 0, 416⟩]) }, cal := { queue := [r], pstore := some [] } }
    let full : CalReq := { r with measuring := true, outs := [1, 2, 3, 4] }
    let u (r : CalReq) : State := { base with cal := { active := some r } }
    Memory.wf s = true ∧ 256 ≤ s.slotRoom 4 ∧ s.cal.active = none ∧ s.calPending = some 0 ∧
      takeFirst (fun r => decide (r.sec = 0) && s.calEligible r) s.cal.queue = some (r, []) ∧ Memory.wf (u full) = true ∧
      (u full).cal.active = some full ∧ full.measuring = true ∧ full.conversions ≤ full.outs.length ∧ full.fg = false ∧
      (u r).cal.active = some r ∧ r.measuring = false ∧ r.lane ≠ 3 ∧ r.outs.length < r.conversions ∧ s.cal.pstore = some [] ∧ s.flashFull = false := by
  decide

/-- A switch whose lock and grant sector 0 has, in each state, with the FSW domain ON, and with it OFF. -/
theorem witness_SwitchCommands : let s := fun st => Test.run (Test.lock (Test.put (Test.on Test.busy [.fsw]) [(F.OUT_FSW_STATE 3, st)]) 13 0)
    let off := Test.run (Test.lock Test.busy 13 0)
    ((∀ st ∈ [0, 2, 4, 5, 6], Memory.wf (s st) = true ∧ (s st).hasUnit 0 13 = true ∧ (s st).holds 0 13 = true ∧ (s st).settledOn .fsw = true ∧
      (s st).get (F.OUT_FSW_STATE 3) = st ∧ (s st).isSet F.OUT_STAT_VUV = false ∧ (s st).out.fsw[3].rel = false) ∧
      Memory.wf off = true ∧ off.hasUnit 0 13 = true ∧ off.holds 0 13 = true ∧ off.settledOn .fsw = false) ∧ Undisturbed off (Test.segOf 0 []) 1 ∧
      Undisturbed (s 6) (Test.segOf 0 []) 1 :=
  ⟨by decide, Test.undisturbed .., Test.undisturbed ..⟩

theorem witness_SwitchTransitions : let s := fun st => Test.put State.reset [(F.OUT_FSW_STATE 3, st), (F.OUT_FSWCFG_RETRY 3, 0)]
    ∀ st ∈ [1, 2, 3, 4, 6], Memory.wf (s st) = true ∧ (s st).get (F.OUT_FSW_STATE 3) = st ∧ (s st).out.fsw[3].releasing = false ∧
      (s st).get (F.OUT_FSWCFG_RETRY 3) = 0 ∧ (s st).out.fsw[3].retryLeft = 0 ∧ (s st).out.fsw[3].onTicks < 1966080 ∧
      1966080 ≤ ((s st).onFsw 3 fun x => { x with onTicks := 1966080, retryLeft := 1 }).out.fsw[3].onTicks ∧
      ((s st).onFsw 3 fun x => { x with onTicks := 1966080, retryLeft := 1 }).out.fsw[3].retryLeft ≠ 0 ∧
      (s st).out.fsw[3].limTicks < 29 ∧ 29 ≤ ((s st).onFsw 3 fun x => { x with limTicks := 29 }).out.fsw[3].limTicks ∧
      (s st).out.fsw[3].rel = false := by decide

theorem witness_FieldSupplyLockout : Memory.wf State.reset = true ∧ (Test.lock State.reset 13 2).holds 2 (10 + 3) = true ∧
    Memory.wf (Test.on State.reset [.fsw]) = true ∧ (Test.on State.reset [.fsw]).settledOn .fsw = true := by decide

/-- An analog output driving, in PULLDOWN with EN asked for, and with RNG 11b; with its domain OFF. -/
theorem witness_AnalogOutputCommands :
    let s := fun st v => Test.run (Test.w (Test.lock (Test.put (Test.on Test.busy [.aout]) [(F.OUT_AOST_STATE 1, st)]) 9 0) 1 v)
    (∀ x ∈ [(2, 0x20000), (3, 0), (5, 0x3FFFF), (6, 0x18000), (1, 0x20000)], Memory.wf (s x.1 x.2) = true ∧ (s x.1 x.2).hasUnit 0 9 = true ∧
      (s x.1 x.2).holds 0 9 = true ∧ (s x.1 x.2).settledOn .aout = true ∧ (s x.1 x.2).out.ao[1].ramp = none ∧ (s x.1 x.2).out.ao[1].rel = false ∧ (s x.1 x.2).get (F.OUT_AOST_STATE 1) = x.1) ∧
      (((s 1 0x20000).secs[0].rdW 1).getLsbD 17 = true ∧ bits ((s 1 0x20000).secs[0].rdW 1) 16 15 ≠ 3) ∧ bits ((s 6 0x18000).secs[0].rdW 1) 16 15 = 3 ∧
      Undisturbed (s 1 0x20000) (Test.segOf 0 []) 1 ∧
      let off := Test.run (Test.lock Test.busy 9 0)
      Undisturbed off (Test.segOf 0 []) 1 ∧ Memory.wf off = true ∧ off.hasUnit 0 9 = true ∧ off.holds 0 9 = true ∧ off.settledOn .aout = false ∧
        off.out.ao[1].ramp = none :=
  ⟨by decide, by decide, by decide, Test.undisturbed .., Test.undisturbed .., by decide⟩

/-- The output events: a range change with and without a held code, a ramp to each end, a pending command, a second sample at the backfeed
threshold, a device that may drive. -/
theorem witness_OutputEvents :
    let s := Test.put (Test.on State.reset [.fsw]) [(F.OUT_AOST_STATE 1, 4), (F.OUT_FSW_STATE 3, 0)]
    let ao (f : AoutSt → AoutSt) : State := { s with out := { s.out with ao := s.out.ao.set 1 (f s.out.ao[1]) } }
    let fsw (f : FswSt → FswSt) : State := { s with out := { s.out with fsw := s.out.fsw.set 3 (f s.out.fsw[3]) } }
    Memory.wf s = true ∧ s.get (F.OUT_AOST_STATE 1) = 4 ∧ s.out.ao[1].held = none ∧ (ao fun x => { x with held := some 9 }).out.ao[1].held = some 9 ∧
      (∀ st ∈ [0, 1, 7], (ao fun x => { x with ramp := some st }).out.ao[1].ramp = some st) ∧ s.tw.dropClaim = false ∧
      s.get (F.OUT_FSW_STATE 3) = 0 ∧ (fsw fun x => { x with pend := some true }).out.fsw[3].pend = some true ∧ s.isSet F.OUT_STAT_VUV = false ∧
      s.out.fsw[3].rel = false ∧ State.reset.isOn .fsw = false ∧ State.reset.isOn .aout = false ∧ s.settledOn .fsw = true ∧ s.isOn .fsw = true ∧ s.tick % 32 = 0 ∧
      ({ s with tick := 33 } : State).tick % 32 ≠ 0 ∧
      (fsw fun x => { x with high := 1 }).out.fsw[3].high = 1 ∧ #v[false, false, false, true][3] = true ∧
      ({ Test.put State.reset [(F.TW_STAT_CLMOWN, 1)] with tw := { claimAge := 63 } } : State).mayDrive = true := by decide

/-! ### Frames, segments, sectors and bookings -/

/-- An image of one frame with one segment of 100 cycles and one bundle (02 Tables CON-1 to CON-4); its CRC was computed outside the model. -/
def Test.image : List Byte :=
  [0x59, 0x54, 0x48, 0x42, 1, 1, 0, 1, 1, 0, 0, 1, 1, 1, 0, 0] ++ [0, 0, 0, 70, 0x5E, 0x86, 0x7B, 0x1D, 0, 0, 0, 0, 0, 0, 0, 0] ++
    [0, 1, 0, 0, 0, 0, 0, 0, 0, 100, 0, 0, 0, 0, 0, 0] ++ [0, 0, 0, 0, 0, 0, 0, 100, 0, 0, 0, 0] ++ List.replicate 10 0

/-- Sector 0 in a state, with that image. -/
def Test.loaded (st : Nat) : State :=
  (Test.put (Test.on State.reset [.core, .imem, .hb 0]) [(F.SEC_CTL_STATE 0, st), (F.SEC_CTL_IMG 0, 1)]).onSec 0 fun x =>
    { x with image := some (parseImage Test.image) }

theorem witness_FrameBoundaryEffects :
    let s : State := { Test.put (Test.loaded 0) [(F.SEC_CTL_SPEND 0, 1), (F.SCH_BST_CAPLEFT 0, 63)] with
      boot := { phase := 6 }, sch := { periodPend := some 0x3FFFF } }
    let u := (Test.loaded 1).onSec 0 fun x => { x with skipLeft := 255 }
    6 ≤ s.boot.phase ∧ Memory.wf s = true ∧ s.sch.periodPend = some 0x3FFFF ∧ s.periodFits 0x3FFFF = true ∧ s.stopped 0 = true ∧
      s.isSet (F.SEC_CTL_SPEND 0) = true ∧ s.secs[0].rstWait = none ∧ s.secs[0].image = some (parseImage Test.image) ∧ s.ldg.iv[0].opened = false ∧
      s.get (F.SCH_BST_CAPLEFT 0) ≠ 0 ∧ Memory.wf u = true ∧ u.running 0 = true ∧ u.secs[0].rstWait = none ∧ u.secs[0].skipLeft ≠ 0 := by decide

/-- A segment whose anchor comes: engine free, engine taken, level CRIT, wake abandoned; a segment that waits. -/
theorem witness_SegmentStarts :
    let s := (Test.loaded 1).onSec 0 fun x => { x with inFrame := true }
    let g : SegRec := ⟨0, 0, 100, 0, []⟩
    let crit := Test.put s [(F.THERM_STAT_LEVEL, 3)]
    let dead : State := { s with pwr := { s.pwr with oscDead := true } }
    let taken := Test.runIn 1 s
    let w : Waiting := ⟨0, 0, 0, 0, 5⟩
    let late : State := { s with eng := { waiting := [⟨1, 0, 0, 0, 6⟩, w] } }
    let early : State := { s with sch := { frameStart := 5 } }
    (∀ t ∈ [s, crit, dead, taken], Memory.wf t = true ∧ t.segOf 0 t.secs[0].frame t.secs[0].tier t.secs[0].nextSeg = some g ∧ t.secs[0].inFrame = true ∧
      t.secs[0].cancelled = false ∧ t.secs[0].rstWait = none ∧ t.running 0 = true ∧ t.eng.copies = [] ∧ tickBefore t.tick (t.anchorTick g) = false ∧ (∀ w ∈ t.eng.waiting, w.sec ≠ 0) ∧
      ∀ k : Fin 16, t.locks[k].waiters = []) ∧ (early.segOf 0 0 0 0 = some g ∧ tickBefore early.tick (early.anchorTick g) = true) ∧
      (late.eng.copies = [] ∧ ∃ w ∈ late.eng.waiting, w.sec = 0) ∧ s.get F.THERM_STAT_LEVEL ≠ 3 ∧ s.pwr.oscDead = false ∧ s.engineFree = true ∧ s.eng.waiting = [] ∧ taken.engineFree = false ∧
      taken.isOn .core = true ∧ (taken.dom .core).moving = none ∧ crit.get F.THERM_STAT_LEVEL = 3 ∧ dead.pwr.oscDead = true ∧ Memory.wf late = true ∧
      firstWaiting late.eng.waiting = some w ∧ late.engineFree = true ∧ late.segOf 0 0 0 0 = some g := by decide

/-- SYNC in IN mode with the expected start 2 ticks before the earliest frame start the edge can call, and far from both; wakes; a prologue. -/
theorem witness_FrameClockEvents :
    let s : State := { Test.loaded 1 with sch := { mode := 2, started := true }, tick := 0x8000 }
    let stray : State := { s with tick := 0x7000 }
    let again : State := { s with sch := { mode := 2, started := true, syncAt := some 9 } }
    let asleep : State := s.setDom .core { state := .off }
    let osc : State := { s with pwr := { s.pwr with wake := some ⟨1, true, [0]⟩ } }
    let gap (t : State) (k : Nat) : Nat := tickGap (tickAfter t.tick k) (tickAfter t.sch.frameStart (t.get F.SCH_FRAME_PERIOD))
    Memory.wf s = true ∧ Memory.wf asleep = true ∧ s.sch.mode = 2 ∧ s.sch.started = true ∧ s.sch.syncAt = none ∧ 2 < gap s 3 ∧ gap s 2 ≤ 2 ∧
      (∀ k ∈ [2, 3], gap { s with tick := 0x7FFF } k ≤ 2) ∧ (∀ k ∈ [2, 3], 2 < gap stray k) ∧ again.sch.syncAt ≠ none ∧
      State.reset.sch.mode ≠ 2 ∧ (Test.put s [(F.THERM_STAT_LEVEL, 3)]).get F.THERM_STAT_LEVEL = 3 ∧ asleep.get F.THERM_STAT_LEVEL ≠ 3 ∧
      asleep.secs[0].image ≠ none ∧ asleep.running 0 = true ∧ asleep.isOn .core = false ∧ asleep.pwr.wake = none ∧
      osc.pwr.wake = some ⟨1, true, [0]⟩ ∧ ({ s with eng := { prologueDue := true } } : State).eng.prologueDue = true ∧ s.eng.copies = [] ∧ s.isOn .core = true ∧
      s.eng.prologueDue = false := by decide

/-- A segment at DCYC and at DCYC + GRACE, each action, a capped sector under ESC, and a drain that ends. -/
theorem witness_OverrunBreaches :
    let g (c : Nat) (o : Bool) : RunSeg := { Test.segOf 0 [] with cyc := c, overran := o }
    let s (c : Nat) (o : Bool) (act : Nat) : State := { Test.loaded 1 with eng := { cur := some (g c o) }, sch := { bact := BitVec.ofNat 18 (0x100 + act) } }
    let esc := Test.put (s 100 false 0) [(F.SCH_BST_CAPLEFT 0, 1)]
    (∀ a < 4, Memory.wf (s 100 false a) = true ∧ (s 100 false a).eng.cur = some (g 100 false) ∧ (g 100 false).seg.dcyc ≤ (g 100 false).cyc ∧
      (s 100 false a).sch.bact.toNat / 4 ^ 0 % 4 = a ∧ (s 100 false a).get (F.SCH_BST_CAPLEFT 0) = 0 ∧ (s 100 false a).secs[0].acted = false ∧
      (s 100 false a).running 0 = true ∧ (s 100 false a).secs[0].rstWait = none ∧ 1 ∉ (s 100 false a).secs[0].logged ∧
      (s 100 false a).mem.logq.length < 4) ∧ (esc.get (F.SCH_BST_CAPLEFT 0) ≠ 0 ∧ esc.sch.bact.getLsbD 8 = true) ∧
      (g 612 true).seg.dcyc + max 16 ((s 612 true 0).sch.ovgr.toNat % 4096) ≤ (g 612 true).cyc ∧ (g 99 false).cyc < (g 99 false).seg.dcyc ∧
      ({ State.reset with eng := { drain := some 3 } } : State).eng.drain = some 3 := by decide

theorem witness_SectorCommands :
    let s := fun st => Test.put (Test.loaded st) [(F.SYS_KEY_ARMED, 1)]
    let noImage := Test.put (s 0) [(F.SEC_CTL_IMG 0, 0)]
    let waits (c : Nat) : State := (s 1).onSec 0 fun x => { x with rstWait := some c }
    (Accessor.host 0).sector = 0 ∧ (Accessor.prog 1).sector ≠ 0 ∧ (∀ st ∈ [0, 1, 2], Memory.wf (s st) = true ∧ (s st).armed = true ∧
      (s st).get (F.SEC_CTL_STATE 0) = st) ∧ (s 0).isSet (F.SEC_CTL_IMG 0) = true ∧ noImage.isSet (F.SEC_CTL_IMG 0) = false ∧
      (s 1).isOn .core = true ∧ ((s 1).dom .core).moving = none ∧ (s 1).secs[0].rstWait = none ∧ (∀ c ∈ [3, 4], (waits c).secs[0].rstWait = some c) ∧
      (Test.put (s 2) [(F.SEC_STAT_CAUSE 0, 3)]).get (F.SEC_STAT_CAUSE 0) ≤ 3 ∧ 3 < (Test.put (s 2) [(F.SEC_STAT_CAUSE 0, 4)]).get (F.SEC_STAT_CAUSE 0) ∧
      (Test.loaded 0).armed = false ∧ (Test.loaded 0).isOn .core = true ∧ (∀ st ∈ [0, 1, 2], (s st).isOn .core = true) ∧ (1 : Sector) ≠ 0 ∧ (1 : Word).getLsbD 0 = true ∧ (0x0A5B : Word) ≠ 0x0A5A := by decide

theorem witness_SectorResets :
    let s := fun c => (Test.loaded 1).onSec 1 fun x => { x with rstWait := some c }
    let wd := (Test.put (Test.loaded 1) [(F.SEC_CTL_STATE 1, 1), (F.SEC_WDT_LIM 1, 2), (F.SEC_WDT_WARN 1, 1)]).onSec 1 fun x => { x with wdt := 512 }
    let warn := wd.onSec 1 fun x => { x with wdt := 256 }
    let ln := ((Test.put State.reset [(F.SEC_LTQ_LTQ 0, 1)]).onLane 3 fun x => { x with mode := 2 }).onSec 0 fun x => { x with laneTicks := 128 }
    (∀ c ≤ 5, Memory.wf (s c) = true ∧ (s c).secs[1].rstWait = some c ∧ (s c).isOn .core = true) ∧ State.reset.secs[0].rstWait = none ∧
      (State.reset.onSec 0 fun x => { x with rstBusy := true }).secs[0].rstBusy = true ∧ State.reset.eng.copies = [] ∧ wd.running 1 = true ∧ wd.get (F.SEC_WDT_LIM 1) ≠ 0 ∧
      wd.get (F.SEC_WDT_LIM 1) * 256 ≤ wd.secs[1].wdt ∧ wd.isOn .core = true ∧ (wd.dom .core).moving = none ∧ wd.secs[1].rstWait = none ∧
      warn.secs[1].wdt < warn.get (F.SEC_WDT_LIM 1) * 256 ∧ warn.get (F.SEC_WDT_WARN 1) ≠ 0 ∧ warn.get (F.SEC_WDT_WARN 1) < warn.get (F.SEC_WDT_LIM 1) ∧
      warn.secs[1].wdt = (warn.get (F.SEC_WDT_LIM 1) - warn.get (F.SEC_WDT_WARN 1)) * 256 ∧ State.reset.isSet (F.SEC_VRT_NET 0 0) = false ∧
      ln.hasLane 0 3 = true ∧ 2 ≤ ln.lanes[3].mode ∧ ln.lanes[3].conv = none ∧ ln.lanes[3].due = false ∧ (ln.onLane 3 fun x => { x with mode := 9 }).lanes[3].mode = 9 ∧ ln.hasLane 1 3 = false ∧
      ln.get (F.SEC_LTQ_LTQ 0) ≠ 0 ∧ 128 * ln.get (F.SEC_LTQ_LTQ 0) ≤ ln.secs[0].laneTicks ∧ State.reset.get (F.SEC_LTQ_LTQ 0) = 0 := by decide

/-- The image passes every check for sector 0, fails for sector 1 and while sector 0 runs. -/
theorem witness_ImageLoads : Memory.wf (Test.loaded 0) = true ∧ (Test.loaded 0).checkImage 0 Test.image Test.image.length = 0 ∧
    (Test.loaded 0).checkImage 1 Test.image Test.image.length = 7 ∧ (Test.loaded 1).stopped 0 = false ∧
    ([] : List Byte).take 4 ≠ [0x59, 0x54, 0x48, 0x42] := by decide +kernel

/-- Word counts 0, 1, the largest and one more; without grant, domain, role or room. -/
theorem witness_SendCommands :
    let s := fun w => Test.run (Test.w (Test.on Test.busy [.net, .twin]) 1 w)
    let net := Test.run (Test.put (s 480) [(F.SEC_QOS_NTX 0, 8)])
    let twin := Test.run (Test.put (s 32) [(F.TW_STAT_ROLE, 2)])
    let bare := Test.runIn 1 Test.busy
    (((s 1).secs[0].grant2.getLsbD 2 = true ∧ (s 1).secs[0].grant2.getLsbD 3 = true ∧ (s 0).secs[0].rdW 1 = 0 ∧ (s 1).secs[0].rdW 1 = 1 ∧
      (s 33).secs[0].rdW 1 = 33 ∧ (s 481).secs[0].rdW 1 = 481) ∧ Memory.wf net = true ∧ net.secs[0].rdW 1 = 480 ∧ net.isOn .net = true ∧ net.txFree 0 480 = true ∧ Memory.wf twin = true ∧
      twin.secs[0].rdW 1 = 32 ∧ twin.isOn .twin = true ∧ 2 ≤ twin.role ∧
      twin.tw.msgs.length + (twin.tw.outst.filter fun f => decide (f.type = 2)).length < 8 ∧ Test.busy.isOn .net = false ∧
      (Test.put (s 480) [(F.SEC_QOS_NTX 0, 0)]).txFree 0 480 = false ∧ (s 32).role < 2 ∧ bare.secs[1].grant2.getLsbD 2 = false ∧
      bare.secs[1].grant2.getLsbD 3 = false) ∧ Undisturbed net (Test.segOf 0 []) 1 ∧ Undisturbed twin (Test.segOf 0 []) 1 ∧
      Undisturbed bare (Test.segOf 1 []) 1 :=
  ⟨by decide, Test.undisturbed .., Test.undisturbed .., Test.undisturbed ..⟩

/-- A slot for each service with just its booking's room, and the work that waits for it. -/
theorem witness_Bookings :
    let slot (o : OpenSlot) (s : State) : State := { s with eng := { cur := some (Test.segOf 0 [o]) } }
    let base := Test.put (Test.on State.reset [.core, .hb 0, .flash, .twin]) [(F.SEC_CTL_STATE 0, 1), (F.MEM_SCRUB_EN, 0)]
    let host := slot ⟨1, 0, 64⟩ { base with host := { state := 1, txn := { op := 3, cnt := 1 } } }
    let twin := slot ⟨2, 0, 38⟩ { Test.put base [(F.TW_STAT_ROLE, 2), (F.TW_STAT_LINK, 1)] with tw := { hbDue := true } }
    let c : RxCmd := ⟨0, 7, [1], false, false, 0, [], [], [], 1, 0, 0⟩
    let net := slot ⟨4, 0, 64⟩ { base with net := { rx := [c] } }
    let tel := slot ⟨8, 0, 72⟩ { base with net := { telReq := true } }
    let o : FlashOp := flashOp 1 0 0 0 1 []
    let fl := slot ⟨32, 0, 1648⟩ { base with mem := { factive := some o } }
    let sc := slot ⟨64, 0, 64⟩ { base with mem := { writeBack := [9], upset := [(9, .single)] } }
    (∀ s ∈ [host, twin, net, tel, fl, sc], Memory.wf s = true ∧ s.eng.flights = [] ∧ s.eng.copies = []) ∧
      (host.hostPending = true ∧ host.host.txn.cnt = host.host.txn.served + 1 ∧ host.inWindow 0 0 = some 0 ∧ host.hamperUpset 0 = .none) ∧
      (22 ≤ twin.twinRoom ∧ twin.tw.hbDue = true ∧ twin.tw.hbWords = [] ∧ twin.linkUp = true ∧ 2 ≤ twin.role ∧ twin.tw.pass = none ∧ twin.tw.buf = []) ∧
      (netrxCycles (3 * (4 + c.words.length)) ≤ net.slotRoom 2 ∧ net.fresh? 0 7 = true ∧ net.get (F.NET_RX_CNT 0) < 4 ∧
        net.banksOn (net.physOf 0 (net.rxEntry 0)) 64 = true) ∧
      (64 ≤ tel.slotRoom 3 ∧ tel.isOn .net = false ∧ net.slotRoom 3 < 64) ∧
      (fl.mem.factive = some o ∧ o.op = 1 ∧ o.busy = false ∧ o.finished = false ∧ 48 ≤ fl.flashRoom ∧ fl.isOn .flash = true ∧ o.hofs + 8 * o.step + 8 ≤ 2 ^ 16 ∧ fl.inWindow 0 7 = some 7) ∧
      40 ≤ sc.slotRoom 6 ∧ sc.scrubPending = true ∧ sc.isSet F.MEM_SCRUB_EN = false ∧ sc.hamperUpset 9 = .single ∧ tel.scrubPending = false := by decide

/-! ### Power, clocks, ledger, staged words, lanes, host and registers -/

/-- After boot: HOST off with target RET starts, CORE under CRIT goes down, completions, pending requests, auto-retention, a lane's PLL start,
each stage of a wake. -/
theorem witness_DomainTransitions :
    let s : State := { State.reset with boot := { phase := 7 } }
    let crit := Test.put (Test.on s [.core]) [(F.THERM_STAT_LEVEL, 3)]
    let go : State := s.setDom .twin { state := .on, moving := some .off }
    let pend : State := s.setDom .twin { state := .on, pend := some .off }
    let same : State := s.setDom .twin { state := .on, pend := some .on }
    let lit := ((Test.on s [.lane 3]).onLane 3 fun x => { x with mode := 1 }).setWord (A.PWR_REQB 0) 0x3FFFF
    let auto : State := { lit with pwr := { lit.pwr with readyTicks := #v[0, 0, 0, 2] } }
    let wake (k : Nat) (core : Bool) : State := { s with pwr := { s.pwr with wake := some ⟨k, core, [0]⟩ } }
    Memory.wf s = true ∧ (s.dom .host).moving = none ∧ s.domTarget .host ≠ (s.dom .host).state ∧ Memory.wf crit = true ∧
      (crit.dom .core).moving = none ∧ (crit.domTarget .core).rank < (crit.dom .core).state.rank ∧ s.domTarget .fsw = (s.dom .fsw).state ∧
      (go.dom .twin).moving = some .off ∧ (pend.dom .twin).pend = some .off ∧ (pend.dom .twin).moving = none ∧ DomState.off ≠ (pend.dom .twin).state ∧
      (same.dom .twin).pend = some .on ∧ DomState.on = (same.dom .twin).state ∧
      (auto.get F.PWR_LRET_TICKS ≠ 0 ∧ auto.lanes[3].mode = 1 ∧ auto.resolved (.lane 3) = .on ∧ auto.get F.PWR_LRET_TICKS ≤ auto.pwr.readyTicks[3]) ∧
      s.pwr.readyTicks[3] < s.get F.PWR_LRET_TICKS ∧ s.pwr.pll = false ∧ s.pwr.wake = none ∧
      (∀ k ∈ [0, 1, 2, 3, 4], (wake k true).pwr.wake = some ⟨k, true, [0]⟩ ∧ ((wake k true).dom .core).moving = none) ∧
      (∀ k ∈ [0, 2], (wake k false).pwr.wake = some ⟨k, false, [0]⟩ ∧ ((wake k false).dom .core).moving = none) ∧
      (Test.put (wake 0 false) [(F.PWR_REGCTL_IDLE, 1)]).pllNeedsFull = true ∧ (Test.put (wake 0 false) [(F.PWR_REGCTL_IDLE, 2)]).pllNeedsFull = false := by
  decide

/-- Raises with their enable bits on and off, the clock sources, a divider that waits, regulator modes, posts younger and older than three
edges. -/
theorem witness_RaisesAndClocks :
    let s := State.reset
    let off := Test.put s [(F.PWR_WAKEEN_EN, 0)]
    let ret := (s.setDom .twin { state := .ret }).setDom .net { state := .ret }
    let x (c : Xtal) : State := { s with pwr := { s.pwr with xtal := c } }
    let slow : State := { s with pwr := { s.pwr with slowXtal := true, slowLost := true } }
    let mdiv := Test.put s [(⟨A.CLK_MDIV, 15, 15⟩, 1)]
    let post (a : Nat) (age : Nat) : State := { s with pwr := { s.pwr with posts := [⟨a, 0xFF, 9, .host 0, age⟩] } }
    Memory.wf s = true ∧ (∀ b ∈ [2, 3, 4], s.get F.PWR_WAKEEN_EN / 2 ^ b % 2 = 1 ∧ off.get F.PWR_WAKEEN_EN / 2 ^ b % 2 = 0) ∧
      (ret.dom .twin).state = .ret ∧ (ret.dom .net).state = .ret ∧ (s.dom .twin).state ≠ .ret ∧ s.pwr.wake = none ∧ s.pwr.wakeRecTick ≠ some s.tick ∧
      (x .starting).pwr.xtal = .starting ∧ (x .stop).pwr.xtal ≠ .starting ∧ slow.pwr.slowXtal = true ∧ s.pwr.slowXtal = false ∧
      s.get F.CLK_CTL_SCSEL ≠ 1 ∧ (Test.put s [(F.CLK_CTL_SCSEL, 1)]).get F.CLK_CTL_SCSEL = 1 ∧ s.mem.logq.length < 4 ∧
      (mdiv.word A.CLK_MDIV &&& BitVec.ofNat 18 (2 ^ 15) ≠ 0 ∧ mdiv.lanes[3].mode ≤ 1) ∧ s.word A.CLK_MDIV &&& BitVec.ofNat 18 (2 ^ 15) = 0 ∧
      s.boot.phase < 2 ∧ 2 ≤ ({ s with boot := { phase := 2 } } : State).boot.phase ∧ s.fullForced = false ∧ s.get F.PWR_REGCTL_IDLE ≠ 1 ∧ s.loadEst ≤ 2400 ∧ (Test.put s [(F.PWR_REGCTL_IDLE, 1)]).get F.PWR_REGCTL_IDLE = 1 ∧
      (Test.put s [(F.PWR_REGCTL_IDLE, 2)]).get F.PWR_REGCTL_IDLE = 2 ∧ s.pwr.posts = [] ∧
      (∀ a ∈ [A.SCH_FRAME, A.LDG_STOREH, A.PWR_LRET], (post a 3).pwr.posts = [⟨a, 0xFF, 9, .host 0, 3⟩]) ∧
      (post A.PWR_LRET 2).pwr.posts = [⟨A.PWR_LRET, 0xFF, 9, .host 0, 2⟩] ∧ s.pwr.hold[2] ≠ 1 ∧
      ({ s with pwr := { hold := #v[0, 0, 1] } } : State).pwr.hold[2] = 1 := by decide

/-- Ticks at both ends of ±64 mV and just beyond, a zeroing tick, STORE just posted, ZEN and STMAX at 0 and not. -/
theorem witness_LedgerTicks :
    let s := State.reset
    let zero : State := { s with ldg := { zeroNow := true } }
    let posted : State := { s with ldg := { postedAt := some 0 } }
    let zen := Test.put zero [(F.LDG_CFG_ZEN, 1)]
    let stale : State := Test.put { s with ldg := { postAge := 2 ^ 21 } } [(F.LDG_TMAX_STMAX, 1)]
    Memory.wf s = true ∧ zero.ldg.zeroNow = true ∧ s.ldg.zeroNow = false ∧ s.ldg.zeroing = none ∧ (∀ v ∈ [(-64000000 : Int), 64000000], -64000000 ≤ v ∧ v ≤ 64000000) ∧
      (-64000001 : Int) < -64000000 ∧ (64000000 : Int) < 64000001 ∧ s.ldg.iv[(0 : Sector)].opened = false ∧
      ({ s with ldg := { iv := Vector.replicate 4 { opened := true } } } : State).ldg.iv[(0 : Sector)].opened = true ∧ s.ldg.storeFrac < 1000 * 2 ^ 24 ∧
      s.ldg.postedAt ≠ some s.tick ∧ posted.ldg.postedAt = some posted.tick ∧ zen.isSet F.LDG_CFG_ZEN = true ∧ zen.ldg.zeroNow = true ∧
      (Test.put s [(F.LDG_CFG_ZEN, 0)]).isSet F.LDG_CFG_ZEN = false ∧ stale.get F.LDG_TMAX_STMAX ≠ 0 ∧
      stale.get F.LDG_TMAX_STMAX * 2 ^ 21 ≤ stale.ldg.postAge ∧ s.get F.LDG_TMAX_STMAX = 0 ∧
      (Test.put s [(F.LDG_TMAX_STMAX, 1)]).ldg.postAge < (Test.put s [(F.LDG_TMAX_STMAX, 1)]).get F.LDG_TMAX_STMAX * 2 ^ 21 := by decide

/-- Samples at each entry and leave level against levels that they change, that they keep, and that they count toward. -/
theorem witness_ThermalSamples :
    let up (x : Int) : Nat := if 1040 ≤ x then 3 else if 960 ≤ x then 2 else if 880 ≤ x then 1 else 0
    let down (x : Int) : Nat := if 1008 ≤ x then 3 else if 928 ≤ x then 2 else if 848 ≤ x then 1 else 0
    let t (n : Nat) : Int := (BitVec.ofNat 12 n).toInt
    let lv (k d : Nat) : State := Test.put State.reset [(F.THERM_STAT_LEVEL, k), (F.THERM_CHAT_DWELL, d)]
    (lv 2 7).tick % 32 = 0 ∧ ({ lv 2 7 with tick := 31 } : State).tick % 32 ≠ 0 ∧ Memory.wf (lv 2 7) = true ∧ up (t 1040) = 3 ∧ (lv 2 7).get F.THERM_STAT_LEVEL < 3 ∧ up (t 1039) = 2 ∧ (lv 1 6).get F.THERM_STAT_LEVEL < up (t 1039) ∧
      (lv 1 6).get F.THERM_CHAT_DWELL < 7 ∧ (lv 2 7).get F.THERM_CHAT_DWELL = 7 ∧ up (t 927) ≤ (lv 2 7).get F.THERM_STAT_LEVEL ∧
      down (t 927) < (lv 2 7).get F.THERM_STAT_LEVEL ∧ up (t 928) ≤ (lv 2 7).get F.THERM_STAT_LEVEL ∧ (lv 2 7).get F.THERM_STAT_LEVEL ≤ down (t 928) ∧
      (lv 2 7).ldg.run ≠ some true ∧ ({ lv 2 7 with ldg := { run := some true } } : State).ldg.run = some (!false) := by decide

/-- Descriptor 63 granted and not, keyed commits by sector 0, curve memory 400h and 7FFh with lock 15 held and free, Thermos pointers at both
ends of the user area and outside it. -/
theorem witness_StagedCommits :
    let s := Test.on State.reset [.core]
    let key := Test.put s [(F.SYS_KEY_ARMED, 1)]
    let user (a : Nat) : State := Test.put s [(curvePtr (.prog 0), a)]
    let conv (cal : Bool) : State := s.onLane 3 fun x =>
      { x with conv := some ⟨63, { w0 := 0 }, {}, 5, none, false, false, 0, none, {}, true, false, false, false, cal, 0, 0, (0, 1), 0⟩ }
    let crv (a : Nat) : State := Test.put (Test.lock s 15 0) [(curvePtr (.host 0), a)]
    let thp (a : Nat) : State := Test.put s [(F.MEM_THP_PTR, a)]
    Memory.wf s = true ∧ s.isOn .core = true ∧ key.isOn .core = true ∧ s.hasDesc 0 63 = true ∧ s.hasDesc 1 63 = false ∧ Memory.wf key = true ∧ (Accessor.host 0).sector = 0 ∧ key.armed = true ∧
      (∀ a ∈ [0x400, 0x7FF], (crv a).get (curvePtr (.host 0)) = a ∧ (crv a).curveWritable (.host 0) a = true ∧ s.curveWritable (.host 0) a = false) ∧
      (∀ a ∈ [0x400, 0x807], (user a).get (curvePtr (.prog 0)) = a ∧ (user a).hasUnit 0 15 = true ∧ (user a).holds 0 15 = false) ∧
      (∀ e ∈ [(5 : Fin 16), 6], (conv false).entrySet 3 e = 0 ∧ (conv true).entrySet 3 e = 0 ∧ s.entrySet 3 e = 0) ∧
      (∀ a ∈ [0xBF, 0xC0, 0xFF, 0x100, 0x1FF], (thp a).get F.MEM_THP_PTR = a) ∧ (Accessor.prog 1).sector ≠ 0 := by decide

/-- A lane with its clock, READY, armed, converting, holding a sample; without its clock; its share exhausted; a CIC output that a sample
completes. -/
theorem witness_LaneEvents :
    let base := Test.on State.reset [.core, .lane 3]
    let s : State := { base with pwr := { base.pwr with pll := true } }
    let lane (f : LaneSt → LaneSt) : State := s.onLane 3 f
    let ltx := (Test.put s [(F.SEC_LTQ_LTQ 0, 1)]).onSec 0 fun x => { x with laneTicks := 128 }
    let trig (t : Nat) (s : State) : State := Test.put (s.onLane 3 fun x => { x with armed := true }) [(F.LANE_CTL_TRIG 3, t)]
    let ch : Chain := { cics := 2, taken := 7 }
    let c : Conv := ⟨63, {}, {}, 0, none, false, false, 0, none, ch, true, false, false, false, false, 0, 0, (0, 1), 0⟩
    let conv := lane fun x => { x with mode := 2, conv := some c }
    let h : HeldSample := ⟨63, 9, ⟨1, 0⟩⟩
    let r : CalReq := { calRequest 0 0x00000 with lane := 3 }
    let cal := lane fun x => { x with mode := 9, due := true, queue := [.trig] }
    let calOn : State := { cal with cal := { active := some r } }
    ((Memory.wf calOn = true ∧ s.isOn .core = true ∧ calOn.cal.active = some r ∧ r.lane = 3 ∧ calOn.lanes[3].mode = 9 ∧ calOn.lanes[3].due = true ∧
      calOn.lanes[3].queue = [.trig] ∧ calOn.isOn (.lane 3) = true ∧ (calOn.dom (.lane 3)).moving = none ∧ calOn.pwr.pll = true ∧ r.kind ≠ 3 ∧
      r.kind ≠ 4) ∧ Memory.wf s = true ∧ (∀ q ∈ [LaneCmd.mode 1 0, .mode 2 0, .mode 11 8, .chan 15 63, .swap, .trig], (lane fun x => { x with queue := [q] }).lanes[3].queue = [q]) ∧
      State.reset.isOn (.lane 3) = false ∧ State.reset.pwr.autoRet[3] = false ∧ State.reset.laneTimeOut 3 = false ∧ ltx.laneTimeOut 3 = true ∧
      (s.isOn (.lane 3) = true ∧ (s.dom (.lane 3)).moving = none ∧ s.pwr.pll = true) ∧ s.cal.active = none ∧ s.lanes[3].conv = none ∧
      s.lanes[3].mode < 2 ∧ s.lanes[3].ran = false ∧ (trig 1 s).laneTrig 3 = 1 ∧ (trig 2 s).laneTrig 3 = 2 ∧ (trig 2 s).lanes[3].armed = true ∧
      s.lanes[3].armed = false ∧ (lane fun x => { x with due := true }).lanes[3].due = true ∧ conv.lanes[3].conv = some c ∧ conv.lanes[3].mode = 2 ∧
      conv.get (F.LANE_CTL_CNT 3) = 0 ∧ conv.lanes[3].ltStop = false ∧ c.cal = false ∧ c.test = none ∧ c.twoPhase = false ∧ c.ratio = false ∧ c.bad = false ∧
      c.refBad = false ∧ c.prof.crv = false ∧ c.prof.ntaps = 0 ∧ c.prof.len = 1 ∧
      conv.lanes[3].fifo.length < 16 ∧
      (lane fun x => { x with fifo := List.replicate 16 ⟨1, 0⟩ }).lanes[3].fifo.length = 16 ∧
      ({ s with afe := { held := #v[some 5, none, none, none, none, none, none] } } : State).afe.held[0] = some 5 ∧
      (lane fun x => { x with held := [h] }).lanes[3].held = [h] ∧ s.laneOwner 3 = some 0 ∧
      (State.reset.onSec 0 fun x => { x with grant := 0 }).laneOwner 3 = none ∧
      ((State.reset.onSec 0 fun x => { x with grant := 0 }).onSec 2 fun x => { x with grant := 8 }).laneOwner 3 = some 2 ∧
      s.hasLane 0 3 = true ∧ s.hasLane 1 3 = false) ∧ ∃ v d, runCic c.prof [true] c.chain = (some v, d, []) ∧ c.prof.order ≤ d.cics :=
  ⟨by decide, _, _, rfl, by decide⟩

/-- Headers whose CRC matches and does not, an illegal width, the port BUSY and DONE, RESTRICT, register and window runs that end at the last
address and one beyond, data whose CRC matches and does not. -/
theorem witness_HostFrames :
    let hp := Test.on State.reset [.host, .core, .hb 0]
    let long : HostHead := ⟨0, 0, 0, 1, 0, true⟩
    let st (k : Nat) (t : HostTxn) : State := { hp with host := { state := k, txn := t } }
    let head (op : Nat) (sect : Sector) (width : Fin 4) (a : BitVec 16) (c : Byte) : HostHead :=
      let h : HostHead := ⟨sect, width, a, c, 0, false⟩
      { h with hcrc := crc8 (headBytes (headCmd op h) a c) }
    let ok (op : Nat) (h : HostHead) : Bool := decide (crc8 (headBytes (headCmd op h) h.addr h.cnt) = h.hcrc)
    let deny := Test.put hp [(F.SEC_HATT_RESTRICT, 1), (F.SEC_HATT_SECT, 1)]
    let r := head 1 0 0 0xFFF 1
    let w := head 4 0 0 0xFFFF 1
    let one : HostTxn := { op := 1, cnt := 1 }
    (long.long = true ∧ [(1 : Byte), 2].length < 3 * headCount long ∧ hp.host.state = 0) ∧ Memory.wf hp = true ∧ hp.isOn .host = true ∧ State.reset.isOn .host = false ∧ ok 1 r = true ∧ ok 1 { r with hcrc := r.hcrc ^^^ 1 } = false ∧
      ok 3 (head 3 0 2 0 1) = true ∧ 2 ≤ (head 3 0 2 0 1).width.val ∧ (st 1 one).host.state = 1 ∧ (st 2 one).host.state = 2 ∧
      deny.isSet F.SEC_HATT_RESTRICT = true ∧ deny.get F.SEC_HATT_SECT ≠ (head 1 0 0 0 1).sect.val ∧ ok 1 (head 1 0 0 0xFFF 2) = true ∧
      0xFFF < (head 1 0 0 0xFFF 2).addr.toNat + headCount (head 1 0 0 0xFFF 2) - 1 ∧ hp.hostDenied 1 r = false ∧ hp.hostOutside 1 r = false ∧
      1024 * hp.get (F.SEC_WIN_GLEN 0) < w.addr.toNat + headCount (head 4 0 0 0xFFFF 2) ∧ hp.hostDenied 4 w = false ∧ hp.hostOutside 4 w = false ∧
      3 * headCount w ≤ [(1 : Byte), 2, 3].length ∧ crc8 ([(1 : Byte), 2, 3].take (3 * headCount w)) = 0x63 ∧
      crc8 ([(1 : Byte), 2, 3].take (3 * headCount w)) ≠ 0x62 ∧ ok 6 (head 6 0 0 3 1) = true ∧ (head 6 0 0 3 1).addr.getLsbD 1 = true ∧
      (head 6 0 0 3 1).addr.getLsbD 0 = true ∧ (head 6 0 0 0 1).addr.getLsbD 1 = false ∧ ok 7 (head 7 0 0 0x4000 1) = true ∧
      ({ st 1 one with host := { (st 1 one).host with direct := true } } : State).host.direct = true ∧ hp.get (F.SEC_QOS_HBW 0) = 0 ∧
      hp.inWindow 0 8191 = some 8191 ∧ hp.hamperUpset 8191 = .none ∧ ({ hp with host := { state := 2, doneTicks := 32768 } } : State).host.doneTicks = 32768 ∧
      (Test.put hp [(F.HOST_WDT_LIM, 1)]).get F.HOST_WDT_LIM ≠ 0 ∧ hp.get F.HOST_WDT_LIM = 0 ∧ hp.isSet F.HOST_WDT_ACT = false := by decide +kernel

/-- SYS_KEY armed and not, by sector 0 and a guest; a plain register's fields changed and not; a window free, one that meets another's, one of
a sector that runs; the post queue with a place left and full; PERIOD at 7 and 8, and one a loaded image does not fit; CORE OFF. -/
theorem witness_RegisterWrites :
    let s := Test.on State.reset [.core]
    let run := Test.put s [(F.SYS_KEY_ARMED, 1), (F.SEC_CTL_STATE 0, 1)]
    let key := Test.put s [(F.SYS_KEY_ARMED, 1)]
    let p : Post := ⟨A.PWR_LRET, 0xFF, 9, .host 0, 0⟩
    let posts (k : Nat) : State := { key with pwr := { key.pwr with posts := List.replicate k p } }
    let im := (Test.put key [(F.SEC_CTL_IMG 0, 1)]).onSec 0 fun x => { x with image := some { parseImage Test.image with
      entries := [⟨0, 0, 0, 100, 0, [⟨5, 0, 100, 0, []⟩]⟩] } }
    (s.isOn .core = true ∧ key.isOn .core = true ∧ State.reset.isOn .core = false ∧ Memory.wf State.reset = true ∧ key.stopped 1 = true ∧
      key.grantClash 1 2 0 = false ∧ key.grantClash 1 2 (s.word (A.SEC_WIN 0)) = true ∧ run.stopped 0 = false ∧ run.armed = true) ∧
      Memory.wf s = true ∧ (0x2C3A5 : Word) ≠ 0 ∧ (Accessor.prog 0).sector = 0 ∧ (Accessor.prog 3).sector ≠ 0 ∧ key.armed = true ∧ s.armed = false ∧
      (s.word A.LOCK_PRI + 1) &&& 0xFF ≠ s.word A.LOCK_PRI &&& 0xFF ∧ s.word A.LOCK_PRI &&& 0xFF = s.word A.LOCK_PRI &&& 0xFF ∧ s.hasLane 0 3 = true ∧ s.hasLane 3 3 = false ∧
      (posts 7).pwr.posts.length < 8 ∧ 8 ≤ (posts 8).pwr.posts.length ∧ s.mem.logq.length < 4 ∧ (7 : Word).toNat < 8 ∧ 8 ≤ (8 : Word).toNat ∧
      s.periodFits 8 = true ∧ im.periodFits 8 = false ∧ key.host.keyTicks = 0 ∧
      ({ key with host := { keyTicks := 1 } } : State).host.keyTicks ≠ 0 := by decide

/-! ### Tangent, network, flash, boot and pins -/

/-- A Tangent link UP and not; frames of right and wrong length and sequence; buffers with a place and without; training from both sides;
records that meet a held sample; a turn in each case. -/
theorem witness_TangentFrames :
    let s := Test.put (Test.on State.reset [.core, .twin]) [(F.TW_STAT_LINK, 1), (F.SEC_CTL_STATE 0, 1)]
    let tw (f : Tangent → Tangent) : State := { s with tw := f s.tw }
    let f : LinkFrame := ⟨2, 0, 0, [1]⟩
    let train := Test.put (Test.on State.reset [.twin]) [(F.TW_CTL_EN, 1), (F.TW_STAT_PRES, 1), (F.TW_STAT_TRN, 1)]
    let ws : List Word := [1, 0x2000, 0, 0, 1, 0x8000]
    let r : ShdRec := ⟨3, 63, false, false, 9, 5⟩
    let y : HeldSample := ⟨63, 9, ⟨5, 0⟩⟩
    let held := (s.onLane 3 fun x => { x with held := [y] })
    Memory.wf s = true ∧ s.isOn .twin = true ∧ s.linkUp = true ∧ State.reset.isOn .twin = false ∧ (List.replicate 6 (0 : Word)).length = 6 ∧
      (0 : Word).toNat = s.get F.TW_PINC_PINC ∧ (1 : Word).toNat ≠ s.get F.TW_PINC_PINC ∧ (0 : BitVec 3).toNat = s.tw.expect ∧ (7 : BitVec 3).toNat ≠ s.tw.expect ∧
      (tw fun x => { x with buf := [⟨f, 0, 0, 0, 0⟩, ⟨f, 0, 0, 0, 0⟩, ⟨f, 0, 0, 0, 0⟩] }).tw.buf.length < 4 ∧ ¬(tw fun x => { x with buf := List.replicate 4 ⟨f, 0, 0, 0, 0⟩ }).tw.buf.length < 4 ∧
      s.running 0 = true ∧ s.msgFits 0 = true ∧ s.msgFits 1 = false ∧ s.running 1 = false ∧
      ({ Test.put s [(F.TW_STAT_ROLE, 2)] with mem := { mirrored := 1 } } : State).mirrorTakes ⟨3, 0, 0, [0]⟩ = true ∧
      recordOf [0x3FC00, 9, 5] = [r] ∧ held.lanes[r.lane].held = [y] ∧ y.d = r.d ∧ y.seq = r.seq ∧ held.lanes[r.lane].fifo.length < 16 ∧
      train.twinOn = true ∧ train.linkUp = false ∧ train.isSet F.TW_STAT_TRN = true ∧ partnerOf ws = some (⟨1, false, false, 1, 0x8000⟩, true) ∧
      train.tw.gotAck = false ∧ partnerOf [1, 0, 0, 0, 1, 0x8000] = some (⟨1, false, false, 1, 0x8000⟩, false) ∧ s.tw.yield = false ∧ s.isOn .core = true ∧ s.pins.vddio = true ∧
      ({ s with pins := { vddio := false } } : State).pins.vddio = false ∧ (Test.put s [(F.TW_CTL_EN, 1), (F.TW_STAT_PRES, 1)]).twinOn = true ∧
      (Accessor.prog 0).sector = 0 ∧ 0 < (Test.put s [(F.TW_RX_CNT 0, 1)]).get (F.TW_RX_CNT 0) := by decide

/-- The 16th turn without progress and the one before, heartbeats missed at the limit and below it, claims and probes in each role. -/
theorem witness_TangentTimers :
    let s := Test.put (Test.on State.reset [.core]) [(F.TW_STAT_LINK, 1), (F.TW_STAT_ROLE, 2), (F.TW_CTL_EN, 1), (F.TW_STAT_PRES, 1), (F.SYS_KEY_ARMED, 1), (F.TW_CFG_MISS, 3)]
    let tw (f : Tangent → Tangent) : State := { s with tw := f s.tw }
    let f : LinkFrame := ⟨1, 0, 0, []⟩
    let own := Test.put s [(F.TW_STAT_CLMOWN, 1)]
    let late := Test.put (tw fun x => { x with hbAge := 5, trainAge := 32 }) [(F.TW_HBWIN_HBWIN, 5), (F.TW_STAT_TRN, 1)]
    let highs := List.replicate (2 + s.serial % 8) true
    (s.isOn .core = true ∧ s.pins.vddio = true ∧ false ∉ highs.take (2 + s.serial % 8) ∧ 2 + s.serial % 8 ≤ highs.length ∧
      ({ own with tw := { claimAge := 33 } } : State).tw.claimAge % 32 = 1 ∧ own.tw.claimAge % 32 ≠ 1 ∧
      (∀ r < 4, (Test.put s [(F.TW_STAT_ROLE, r)]).role = r ∧ (Test.put s [(F.TW_STAT_ROLE, r)]).linkUp = true)) ∧
      Memory.wf s = true ∧ late.get F.TW_HBWIN_HBWIN ≤ late.tw.hbAge ∧ late.linkUp = true ∧ 2 ≤ late.role ∧ late.isSet F.TW_STAT_TRN = true ∧
      32 ≤ late.tw.trainAge ∧ s.tw.trainAge < 32 ∧ s.isSet F.TW_STAT_TRN = false ∧
      s.linkUp = true ∧ s.tw.outst = [] ∧ (tw fun x => { x with outst := [f], stalled := 15 }).tw.stalled < 16 ∧
      16 ≤ (tw fun x => { x with outst := [f], stalled := 16 }).tw.stalled ∧ 2 ≤ s.role ∧
      min 7 (s.get F.TW_STAT_MISSCNT + 1) < max 1 (s.get F.TW_CFG_MISS) ∧
      max 1 ((Test.put s [(F.TW_STAT_MISSCNT, 2)]).get F.TW_CFG_MISS) ≤ min 7 ((Test.put s [(F.TW_STAT_MISSCNT, 2)]).get F.TW_STAT_MISSCNT + 1) ∧
      (Test.put s [(F.TW_STAT_ROLE, 3)]).role = 3 ∧ s.tw.retry = none ∧ (tw fun x => { x with retry := some 0 }).tw.retry = some 0 ∧
      s.isSet F.TW_STAT_PRES = true ∧ State.reset.isSet F.TW_STAT_PRES = false ∧ s.isSet F.TW_STAT_CLMOWN = false ∧ s.tw.dropClaim = false ∧ s.tw.claimWait = 0 ∧
      s.mayClaim = true ∧ own.mayClaim = false ∧ State.reset.role = 0 ∧ own.isSet F.TW_STAT_CLMOWN = true ∧ own.tw.claimOk = false ∧
      ({ own with tw := { claimOk := true } } : State).tw.claimOk = true ∧ ({ own with tw := { prevRole := 2 } } : State).tw.prevRole ∈ [1, 2] ∧
      s.armed = true ∧ s.isSet F.TW_CTL_EN = true ∧ (Accessor.prog 1).sector ≠ 0 ∧
      (tw fun x => { x with shdIn := [⟨3, 0, false, false, 0, 0⟩] }).tw.shdIn = [] ++ ⟨3, 0, false, false, 0, 0⟩ :: [] := by decide

/-- Negotiation, link states, frames in the queue and on the wire, sequence halves. -/
theorem witness_NetLink :
    let s := Test.put (Test.on State.reset [.net]) [(F.NET_CTL_ANEN, 1), (F.NET_STAT_LINK, 1)]
    let d (dev going : Bool) : TxDesc := ⟨0, 0, 0, 1, [1], true, going, dev, 0, ⟨[], none, none⟩, 1, some [1], 0⟩
    let up : State := { Test.put s [(F.NET_STAT_LINK, 3)] with net := { tx := [d false false] } }
    Memory.wf s = true ∧ s.isOn .net = true ∧ State.reset.isOn .net = false ∧ s.isSet F.NET_CTL_ANEN = true ∧
      (Test.put s [(F.NET_CTL_ANEN, 0)]).isSet F.NET_CTL_ANEN = false ∧ s.get F.NET_STAT_LINK ≤ 1 ∧ 1 < up.get F.NET_STAT_LINK ∧
      State.reset.get F.NET_STAT_LINK = 0 ∧ up.get F.NET_STAT_LINK = 3 ∧
      (let q := up.net.tx.filter fun d => d.bytes.isSome && !d.sending
       (q.find? (·.dev)).or q.head? = some (d false false)) ∧ (∀ d ∈ up.net.tx, d.sending = false) ∧
      (∃ x ∈ [d true true], x.sending = true) := by decide

/-- A raw command to the own address with a right FCS, and what each check of Table NET-4 needs. -/
def Test.frame (b : List Byte) : List Byte := b ++ (beBytes 4 (crc32 b).toNat).reverse

def Test.command (body : List Byte) : List Byte :=
  Test.frame (padTo 60 ([2, 0, 0, 0, 0, 0, 4, 0, 0, 0, 0, 9] ++ beBytes 2 (State.reset.get F.NET_ETYPE_ETYPE) ++ body))

theorem witness_NetReceive :
    let s := Test.put State.reset [(F.NET_STAT_LINK, 3), (⟨A.NET_STAT, 10, 10⟩, 0), (F.SEC_CTL_STATE 0, 1), (⟨A.NET_AUTH, 8, 8⟩, 0)]
    let f := Test.command [1, 0x40, 0, 1, 0, 0, 0, 5, 0, 0, 7]
    let b := f.take (f.length - 4)
    let e := splitFrame b
    let y := e.body
    Memory.wf s = true ∧ s.get F.NET_STAT_LINK = 3 ∧ State.reset.get F.NET_STAT_LINK ≠ 3 ∧ s.net.rx.length < 8 ∧
      f.drop (f.length - 4) = (beBytes 4 (crc32 b).toNat).reverse ∧ (64 ≤ f.length ∧ f.length ≤ 1522) ∧ e.dst = s.mac ∧
      e.etype = s.get F.NET_ETYPE_ETYPE ∧ (byteAt y 0 = 1 ∧ byteAt y 1 / 32 = 2 ∧ byteAt y 1 / 4 % 2 = 0 ∧ byteAt y 1 % 4 = 0) ∧
      (1 ≤ be16At y 2 ∧ be16At y 2 ≤ 60 ∧ 16 + 3 * be16At y 2 ≤ y.length) ∧ byteAt y 1 / 8 % 4 = 0 ∧ s.seqLost 0 = false ∧ s.keyMissing 0 = false ∧
      State.reset.seqLost 0 = true ∧ s.tagged 0 = false ∧ s.fresh? 0 (beNat ((y.drop 4).take 4)) = true ∧ s.running 0 = true ∧
      s.secs[0].grant2.getLsbD 2 = true ∧ s.ringInWindow 0 = true ∧
      let pop := Test.put (Test.on State.reset [.core]) [(F.NET_RX_CNT 2, 1)]
      pop.isOn .core = true ∧ (Accessor.prog 2).sector = 2 ∧ 0 < pop.get (F.NET_RX_CNT 2) ∧ State.reset.get (F.NET_RX_CNT 2) = 0 := by decide +kernel

/-- An ARP request for the own address and an echo request under IPEN, with a transmit buffer free for the reply. -/
theorem witness_NetReceive_replies :
    let s := Test.put State.reset [(F.NET_STAT_LINK, 3), (F.NET_CTL_IPEN, 1)]
    let arp := splitFrame (padTo 60 ([2, 0, 0, 0, 0, 0, 4, 0, 0, 0, 0, 9, 8, 6, 0, 1, 8, 0, 6, 4, 0, 1] ++ [4, 0, 0, 0, 0, 9, 1, 2, 3, 4] ++
      List.replicate 6 0 ++ s.ownIp))
    let h : List Byte := [0x45, 0, 0, 29, 0, 0, 0, 0, 64, 1]
    let sum := checksum (h ++ [0, 0, 1, 2, 3, 4] ++ s.ownIp)
    let echo := splitFrame (padTo 60 ([2, 0, 0, 0, 0, 0, 4, 0, 0, 0, 0, 9, 8, 0] ++ h ++ beBytes 2 sum ++ [1, 2, 3, 4] ++ s.ownIp ++
      [8, 0, 0xF6, 0xFE, 0, 1, 0, 0, 1]))
    s.isSet F.NET_CTL_IPEN = true ∧ arp.etype ≠ s.get F.NET_ETYPE_ETYPE ∧ arp.dst = s.mac ∧ s.arpForUs arp = true ∧ s.txRoom 1 = true ∧
      echo.dst = s.mac ∧ echo.etype = 0x0800 ∧ echo.etype ≠ s.get F.NET_ETYPE_ETYPE ∧ s.ipOk echo.body = true ∧ icmpEcho echo.body = true := by
  decide +kernel

/-- A flash request that passes, one outside the window, one without the right, three held already; array steps; OTP open and shut. -/
theorem witness_FlashOperations :
    let s := Test.lock (Test.on State.reset [.core]) 14 0
    let o (op : Nat) (f : FlashOp → FlashOp) : FlashOp := f (flashOp op 0 0x4000 0 1 (List.replicate 16 (0xFF : Byte)))
    let mem (f : Mem → Mem) : State := { s with mem := f s.mem }
    let key := Test.put s [(F.SYS_KEY_ARMED, 1), (F.MEM_OTPA_ADDR, 0x40)]
    Memory.wf s = true ∧ (Accessor.prog 0).sector = 0 ∧ s.hasUnit 0 14 = true ∧ s.holds 0 14 = true ∧ s.hasUnit 1 14 = false ∧ State.reset.holds 0 14 = false ∧
      (s.isOn .core = true ∧ key.isOn .core = true ∧ 2 ≤ (mem fun m => { m with fsusp := some (o 3 id), fqueue := [o 1 id] }).mem.fsusp.toList.length + 1 ∧
        ¬2 ≤ s.mem.fsusp.toList.length + s.mem.fqueue.length ∧ (∀ f ∈ s.mem.fqueue, f.op ≠ 10) ∧
        (o 2 fun x => { x with busy := true, erasing := true }).erasing = true ∧ (o 3 fun x => { x with busy := true }).erasing = false ∧
        s.mem.reclaims = []) ∧ 1024 * s.get (F.SEC_WIN_GLEN 0) < 65536 + 8 ∧ ¬1024 * s.get (F.SEC_WIN_GLEN 0) < 65528 + 8 ∧
      (64 ≤ 0x7700 / 256 ∧ 0x7700 / 256 < 120) ∧ ¬(0x7800 / 256 < 120) ∧ s.mem.factive = none ∧ s.mem.fsusp = none ∧ s.mem.fqueue = [] ∧
      (mem fun m => { m with factive := some (o 3 fun x => { x with busy := true }), fqueue := [o 1 id] }).mem.fqueue = o 1 id :: [] ∧
      (o 2 fun x => { x with busy := true }).data.length = 16 ∧ s.eraseCount 64 < 0x3FFFF ∧ (o 4 fun x => { x with finished := true }).op < 6 ∧
      s.get F.FL_JRNL_HEADREC < 127 ∧ (mem fun m => { m with logq := [⟨8, 0, 0, 1, 5, 9⟩] }).mem.logq = ⟨8, 0, 0, 1, 5, 9⟩ :: [] ∧
      key.armed = true ∧ key.isSet F.MEM_OTPST_BUSY = false ∧ key.otpOpen (key.get F.MEM_OTPA_ADDR) = true ∧ key.ldg.vsysLow = false ∧
      key.otpOpen 0x41 = false ∧ (mem fun m => { m with otpPend := some (0x40, 1) }).mem.otpPend = some (0x40, 1) := by decide

/-- Each reset's condition, the phases of boot, slots without and with an entry that passes, a guest's load. -/
theorem witness_ResetsAndBoot :
    let s : State := { State.reset with boot := { phase := 7, aon := true } }
    let bootAt (k : Nat) : State := { Test.on State.reset [.core] with boot := { phase := k, aon := true } }
    let wd := (Test.put s [(F.SEC_CTL_STATE 0, 1), (F.SEC_WDT_LIM 0, 1)]).onSec 0 fun x => { x with wdt := 256 }
    let key := Test.put (Test.on s [.core]) [(F.SYS_KEY_ARMED, 1)]
    Memory.wf s = true ∧ key.isOn .core = true ∧ s.isOn .core = false ∧ s.boot.phase ≠ 0 ∧ (Test.put s [(F.PWR_REGCTL_MODE, 0)]).isSet F.PWR_REGCTL_MODE = false ∧
      (Test.put s [(F.PWR_REGCTL_MODE, 1)]).isSet F.PWR_REGCTL_MODE = true ∧ s.pins.vddio = true ∧ ({ s with pins := { vddio := false } } : State).pins.vddio = false ∧
      wd.watchdogDone 0 = true ∧ s.running 0 = false ∧ key.armed = true ∧ s.armed = false ∧ (Accessor.host 0).sector = 0 ∧ (Accessor.host 1).sector ≠ 0 ∧
      State.reset.boot.phase = 0 ∧ State.reset.boot.cause = 1 ∧ s.mem.factive = none ∧ s.mem.fsusp = none ∧ s.mem.otpPend = none ∧ State.reset.boot.aon = false ∧
      (State.reset.setThermos 0 0x2D5A3).thermosWord 0 = 0x2D5A3 ∧ State.reset.thermosWord 0 ≠ 0x2D5A3 ∧ (bootAt 0).boot.held = false ∧
      (∀ k ∈ [2, 4, 5], (bootAt k).boot.phase = k ∧ (bootAt k).isOn .core = true) ∧ (∀ k < 16, (bootAt 2).otpByte (0x50 + k) = 0) ∧ (bootAt 4).mem.infoBad = [] ∧
      (bootAt 5).isSet F.SYS_BOOT_BOOTPIN = false ∧ (Test.put (bootAt 5) [(F.SYS_BOOT_BOOTPIN, 1)]).isSet F.SYS_BOOT_BOOTPIN = true ∧
      (bootAt 5).boot.policy.hostnold = false ∧ slotOrder (bootAt 5).boot.policy.slotord = 1 :: [2] ∧ slotOrder 2 = 1 :: [] ∧
      ((bootAt 5).loadSlot 1 0).get F.SCH_LDST_CODE ≠ 0 ∧ key.boot.guest = none ∧ key.isSet F.SYS_BLOAD_BUSY = false ∧
      (0x20000 + 2 * 0x8000 : Word).getLsbD 17 = true ∧ (0x20000 + 0x10000 : Word).toNat / 2 ^ 15 % 4 ∈ [1, 2] ∧ s.dirEntry 2 3 = none := by decide

/-- A pin granted and not, parked and not, a level that changes and one that stands, edges that count and that do not. -/
theorem witness_Pins :
    let s := Test.put (Test.on State.reset [.core]) [(F.PIN_GP_EDGE 7, 1)]
    let park := Test.put s [(F.PIN_GP_PARK 7, 1)]
    Memory.wf s = true ∧ s.isOn .core = true ∧ s.hasGp 0 7 = true ∧ s.hasGp 1 7 = false ∧ s.isSet (F.PIN_GP_PARK 7) = false ∧ park.isSet (F.PIN_GP_PARK 7) = true ∧
      s.isSet (F.PIN_GP_IN 7) = false ∧ s.pins.gpFunc[7] = 0 ∧ s.get (F.PIN_GP_EDGE 7) % 2 = 1 ∧ State.reset.get (F.PIN_GP_EDGE 7) % 2 ≠ 1 ∧
      s.isSet F.PIN_STAT_WAKEL = false ∧ (∀ w < 4, (Test.put s [(F.PIN_CFG_WEDGE, w)]).get F.PIN_CFG_WEDGE = w) := by decide

/-- 12 R281: requests of one cycle are ordered by class and then by sector, behind those that wait. -/
theorem test_log_order_of_a_cycle :
    (((State.reset.log 9 0 0 0 0).inOneCycle fun s => ((s.log 5 1 0 0 0).log 5 0 0 0 0).log 2 3 0 0 0).mem.logq.map fun r => (r.cls, r.sec)) =
      [(9, 0), (2, 3), (5, 0), (5, 1)] := by decide

end Sys2Proof.Machine
end

section
/-! SUPPORT. Register writes: what SYS_KEY, rights, the post queue and the register map make of a write (00 R13, 06 R138, R140, 13 R311,
18 R414, R449, R450). -/

namespace Sys2Proof.Machine

/-! ## Frames in a row -/

theorem RegsKept.append {a b : List Nat} {s t u : State} (h : RegsKept a s t) (k : RegsKept b t u) : RegsKept (a ++ b) s u :=
  (h.mono fun _ hx => List.mem_append_left b hx).trans (k.mono fun _ hx => List.mem_append_right a hx)

theorem Keeps.append {a b : List Part} {s t u : State} (h : Keeps a s t) (k : Keeps b t u) : Keeps (a ++ b) s u :=
  (h.mono fun _ hx => List.mem_append_left b hx).trans (k.mono fun _ hx => List.mem_append_right a hx)

/-- A field of a register that is kept is kept. -/
theorem RegsKept.get {but : List Nat} {s t : State} (h : RegsKept but s t) {f : Fld} (hf : f.addr ∉ but) : t.get f = s.get f := by
  simp only [State.get, h _ hf]

theorem RegsKept.isSet {but : List Nat} {s t : State} (h : RegsKept but s t) {f : Fld} (hf : f.addr ∉ but) : t.isSet f = s.isSet f := by
  simp only [State.isSet, h.get hf]

theorem RegsKept.event {but : List Nat} {s t : State} (h : RegsKept but s t) {n : Sector} (hl : A.SEC_EVL n ∉ but) (hh : A.SEC_EVH n ∉ but)
    (e : Nat) : t.event n e = s.event n e := by simp only [State.event, h _ hl, h _ hh]

theorem RegsKept.armed {but : List Nat} {s t : State} (h : RegsKept but s t) (hk : A.SYS_KEY ∉ but) : t.armed = s.armed := h.isSet hk

theorem RegsKept.log (s : State) (cls sec idx code detail : Nat) : RegsKept [] s (s.log cls sec idx code detail) := by
  unfold State.log State.logRequest State.setThermos
  split <;> exact .of_regs rfl

/-! ## SYS_KEY (13 R311) -/

/-- The ticks and the bit ARMED of SYS_KEY written: what arms the key and what disarms it. -/
def State.putKey (s : State) (ticks armed : Nat) : State :=
  ({ s with host := { s.host with keyTicks := ticks } }).put F.SYS_KEY_ARMED armed

theorem State.disarm_of_armed {s : State} (h : s.armed = true) : s.disarm = s.putKey 0 0 := if_pos h

theorem State.disarm_of_disarmed {s : State} (h : s.armed = false) : s.disarm = s := if_neg (by simp [h])

theorem Memory.wf_putKey {s : State} (h : Memory.wf s = true) (ticks armed : Nat) : Memory.wf (s.putKey ticks armed) = true :=
  Memory.wf_put (Memory.wf_congr h rfl rfl rfl rfl rfl rfl rfl rfl rfl rfl rfl rfl rfl rfl) ..

theorem Keeps.putKey (s : State) (ticks armed : Nat) : Keeps [.regs, .flips, .host] s (s.putKey ticks armed) := by
  intro p hp
  cases p <;> simp_all [Part.same, State.putKey, State.put]

theorem RegsKept.putKey {s : State} (h : Memory.wf s = true) (ticks armed : Nat) : RegsKept [A.SYS_KEY] s (s.putKey ticks armed) :=
  RegsKept.put (s := { s with host := { s.host with keyTicks := ticks } })
    (Memory.wf_congr h rfl rfl rfl rfl rfl rfl rfl rfl rfl rfl rfl rfl rfl rfl) F.SYS_KEY_ARMED armed

theorem State.armed_putKey {s : State} (h : Memory.wf s = true) (ticks armed : Nat) :
    (s.putKey ticks armed).armed = decide (armed % 2 ≠ 0) := by
  have hget : (s.putKey ticks armed).get F.SYS_KEY_ARMED = armed % 2 :=
    State.get_put_self (s := { s with host := { s.host with keyTicks := ticks } }) (Memory.wf_regs h) F.SYS_KEY_ARMED rfl armed
  simp only [State.armed, State.isSet, hget]

theorem Memory.wf_disarm {s : State} (h : Memory.wf s = true) : Memory.wf s.disarm = true :=
  Memory.wf_ite (Memory.wf_putKey h 0 0) h

theorem Keeps.disarm (s : State) : Keeps [.regs, .flips, .host] s s.disarm := by
  cases ha : s.armed with
  | true => exact (State.disarm_of_armed ha).symm ▸ Keeps.putKey s 0 0
  | false => exact (State.disarm_of_disarmed ha).symm ▸ Keeps.refl _ s

theorem RegsKept.disarm {s : State} (h : Memory.wf s = true) : RegsKept [A.SYS_KEY] s s.disarm := by
  cases ha : s.armed with
  | true => exact (State.disarm_of_armed ha).symm ▸ RegsKept.putKey h 0 0
  | false => exact (State.disarm_of_disarmed ha).symm ▸ RegsKept.refl _ s

theorem State.armed_disarm {s : State} (h : Memory.wf s = true) : s.disarm.armed = false := by
  cases ha : s.armed with
  | true => rw [State.disarm_of_armed ha, State.armed_putKey h]; rfl
  | false => rw [State.disarm_of_disarmed ha, ha]

/-! ## Refused writes (04 R90) -/

theorem Keeps.refused (s : State) (acc : Accessor) : Keeps [.regs, .flips] s (s.refused acc) := by
  cases acc with
  | prog n => exact (Keeps.setFlag s _).trans (Keeps.bump _ _)
  | host n => exact .refl _ _

theorem RegsKept.refused {s : State} (h : Memory.wf s = true) (acc : Accessor) : RegsKept [A.SEQ_XST acc.sector] s (s.refused acc) := by
  cases acc with
  | prog n => exact (RegsKept.setFlag h (F.SEQ_XST_REGDN n)).trans (RegsKept.bump (Memory.wf_setFlag h _) (F.SEQ_XST_XCNT n))
  | host n => exact .refl _ _

theorem State.isSet_bump_apart {s : State} (h : Memory.wf s = true) {f g : Fld} (hf : f.fits = true) (hg : g.fits = true)
    (d : f.apart g = true) : (s.bump f).isSet g = s.isSet g := by
  simp only [State.isSet, State.bump, State.get_put_apart (Memory.wf_regs h) f g hf hg d]

/-- A program's refusal shows in REGDN. -/
theorem State.isSet_regdn_refused {s : State} (h : Memory.wf s = true) (n : Sector) :
    (s.refused (.prog n)).isSet (F.SEQ_XST_REGDN n) = true :=
  (State.isSet_bump_apart (Memory.wf_setFlag h _) rfl rfl rfl).trans (State.isSet_setFlag_self (Memory.wf_regs h) _ rfl)

/-! ## Breaches (02 R45)

A breach in its three stages: it is marked in the registers, logged, and acted on. -/

/-- The breach's bit, its count, and the event BREACH. -/
def State.markBreach (s : State) (n : Sector) (kind : Nat) : State :=
  let s := ((s.setFlag (breachFlag n kind)).bump (F.SCH_BST_BCNT n)).raise 0 0
  if n = 0 then s else s.raise n 0

/-- The log entry of the first breach of its kind in the frame. -/
def State.logBreach (s : State) (n : Sector) (kind tier frame low : Nat) : State :=
  if kind ∈ s.secs[n].logged then s else
    (s.log 0 n 0 kind (breachDetail kind tier frame low)).onSec n fun x => { x with logged := kind :: x.logged }

/-- The action of the frame's first breach. -/
def State.actBreach (s : State) (n : Sector) : State :=
  if s.secs[n].acted then s else
  let act := s.breachAction n
  let s := s.onSec n fun x => { x with acted := true }
  if act = 0 then s else if act = 1 then s.capTier n else s.callReset n 1

theorem State.breach_eq (s : State) (n : Sector) (kind tier frame low : Nat) :
    s.breach n kind tier frame low = ((s.markBreach n kind).logBreach n kind tier frame low).actBreach n := rfl

theorem breachFlag_addr (n kind : Nat) : (breachFlag n kind).addr = A.SCH_BST n := by
  unfold breachFlag
  repeat' split
  all_goals rfl

theorem breachFlag_low (n kind : Nat) : (breachFlag n kind).fits = true ∧ (breachFlag n kind).hi < 6 := by
  unfold breachFlag
  repeat' split
  all_goals exact ⟨rfl, of_decide_eq_true rfl⟩

/-- The bits of SCH_BSTn that breaches set lie below CAP, CAPLEFT and BCNT. -/
theorem breachFlag_apart (n kind : Nat) {f : Fld} (hf : 6 ≤ f.lo) : f.apart (breachFlag n kind) = true := by
  have := (breachFlag_low n kind).2
  simp only [Fld.apart, decide_eq_true_eq]
  omega

theorem Memory.wf_markBreach {s : State} (h : Memory.wf s = true) (n : Sector) (kind : Nat) : Memory.wf (s.markBreach n kind) = true :=
  have hr := Memory.wf_raise (Memory.wf_bump (Memory.wf_setFlag h (breachFlag n kind)) (F.SCH_BST_BCNT n)) 0 0
  Memory.wf_ite hr (Memory.wf_raise hr n 0)

theorem Keeps.markBreach (s : State) (n : Sector) (kind : Nat) : Keeps [.regs, .flips] s (s.markBreach n kind) := by
  have h := ((Keeps.setFlag s (breachFlag n kind)).trans (Keeps.bump _ (F.SCH_BST_BCNT n))).trans (Keeps.raise _ 0 0)
  unfold State.markBreach
  dsimp only
  split
  · exact h
  · exact h.trans (Keeps.raise _ n 0)

/-- For sector 0, the events of sector 0 alone. -/
theorem RegsKept.markBreach {s : State} (h : Memory.wf s = true) (n : Sector) (kind : Nat) :
    RegsKept [A.SCH_BST n, A.SEC_EVL 0, A.SEC_EVH 0, A.SEC_EVL n, A.SEC_EVH n] s (s.markBreach n kind) := by
  have hset := breachFlag_addr n kind ▸ RegsKept.setFlag h (breachFlag n kind)
  have hbump := RegsKept.bump (Memory.wf_setFlag h (breachFlag n kind)) (F.SCH_BST_BCNT n)
  have hwf := Memory.wf_bump (Memory.wf_setFlag h (breachFlag n kind)) (F.SCH_BST_BCNT n)
  have hall := (hset.trans hbump).append (RegsKept.raise hwf 0 0)
  unfold State.markBreach
  dsimp only
  split
  · exact hall.mono (by simp)
  · exact (hall.append (RegsKept.raise (Memory.wf_raise hwf 0 0) n 0)).mono (by simp)

/-- The bit of the breach and BREACH of sector 0 are set. -/
theorem State.isSet_markBreach {s : State} (h : Memory.wf s = true) (n : Sector) (kind : Nat) :
    (s.markBreach n kind).isSet (breachFlag n kind) = true := by
  have hset := State.isSet_setFlag_self (Memory.wf_regs h) (breachFlag n kind) (breachFlag_low n kind).1
  have hwf := Memory.wf_setFlag h (breachFlag n kind)
  have hbump := State.isSet_bump_apart hwf (f := F.SCH_BST_BCNT n) rfl (breachFlag_low n kind).1
    (breachFlag_apart n kind (of_decide_eq_true rfl))
  have notEvent (m : Sector) : (breachFlag n kind).addr ∉ [A.SEC_EVL m, A.SEC_EVH m] := by
    simp only [breachFlag_addr, A.SCH_BST, A.SEC_EVL, A.SEC_EVH, List.mem_cons, List.not_mem_nil, or_false, not_or]
    omega
  have hr := (RegsKept.raise (Memory.wf_bump hwf (F.SCH_BST_BCNT n)) 0 0).isSet (notEvent 0)
  have hwf' := Memory.wf_raise (Memory.wf_bump hwf (F.SCH_BST_BCNT n)) 0 0
  unfold State.markBreach
  dsimp only
  split
  · rw [hr, hbump, hset]
  · rw [(RegsKept.raise hwf' n 0).isSet (notEvent n), hr, hbump, hset]

theorem State.event_markBreach {s : State} (h : Memory.wf s = true) (n : Sector) (kind : Nat) : (s.markBreach n kind).event 0 0 = true := by
  have hwf := Memory.wf_bump (Memory.wf_setFlag h (breachFlag n kind)) (F.SCH_BST_BCNT n)
  have hr := State.event_raise_self hwf 0 0 (by omega) (.inr (by omega))
  unfold State.markBreach
  dsimp only
  split
  · exact hr
  · next hn =>
    have hn : n.val ≠ 0 := fun e => hn (Fin.ext e)
    have hk := RegsKept.raise (Memory.wf_raise hwf 0 0) n 0
    have notEvent (a : Nat) (ha : a = 0x20C ∨ a = 0x20D) : a ∉ [A.SEC_EVL n, A.SEC_EVH n] := by
      simp only [A.SEC_EVL, A.SEC_EVH, List.mem_cons, List.not_mem_nil, or_false, not_or]
      omega
    rw [hk.event (notEvent _ (.inl rfl)) (notEvent _ (.inr rfl)), hr]

theorem Memory.wf_onSec {s : State} (h : Memory.wf s = true) (n : Sector) (f : SectorSt → SectorSt) : Memory.wf (s.onSec n f) = true :=
  Memory.wf_congr h rfl rfl rfl rfl rfl rfl rfl rfl rfl rfl rfl rfl rfl rfl

theorem Keeps.onSec (s : State) (n : Sector) (f : SectorSt → SectorSt) : Keeps [.secs] s (s.onSec n f) := by
  intro p hp
  cases p <;> simp_all [Part.same]

theorem Memory.wf_logBreach {s : State} (h : Memory.wf s = true) (n : Sector) (kind tier frame low : Nat) :
    Memory.wf (s.logBreach n kind tier frame low) = true :=
  Memory.wf_ite h (Memory.wf_onSec (Memory.wf_log h ..) n _)

theorem Keeps.logBreach (s : State) (n : Sector) (kind tier frame low : Nat) : Keeps [.mem, .secs] s (s.logBreach n kind tier frame low) := by
  unfold State.logBreach
  split
  · exact Keeps.refl _ s
  · exact (Keeps.log s _ _ _ _ _).append (Keeps.onSec _ n _)

theorem RegsKept.logBreach (s : State) (n : Sector) (kind tier frame low : Nat) : RegsKept [] s (s.logBreach n kind tier frame low) :=
  .of_regs (Keeps.logBreach s n kind tier frame low .regs (by simp))

theorem Keeps.setSeg (s : State) (g : RunSeg) : Keeps [.eng] s (s.setSeg g) := by
  intro p hp
  cases p <;> simp_all [Part.same]

theorem Keeps.callReset (s : State) (n : Sector) (cause : Nat) : Keeps [.secs, .eng] s (s.callReset n cause) := by
  have hwait := Keeps.onSec s n fun x => { x with rstWait := some cause }
  unfold State.callReset
  split
  · dsimp only
    split
    · split
      · exact hwait.append (Keeps.setSeg _ _)
      · exact hwait.mono (by simp)
    · exact hwait.mono (by simp)
  · exact Keeps.refl _ s

theorem Keeps.capTier (s : State) (n : Sector) : Keeps [.regs, .flips] s (s.capTier n) := (Keeps.put s _ _).trans (Keeps.setFlag _ _)

theorem RegsKept.capTier {s : State} (h : Memory.wf s = true) (n : Sector) : RegsKept [A.SCH_BST n] s (s.capTier n) :=
  (RegsKept.put h (F.SCH_BST_CAPLEFT n) _).trans (RegsKept.setFlag (Memory.wf_put h _ _) (F.SCH_BST_CAP n))

theorem State.isSet_capTier {s : State} (h : Memory.wf s = true) (n : Sector) (kind : Nat) :
    (s.capTier n).isSet (breachFlag n kind) = s.isSet (breachFlag n kind) := by
  have fits := (breachFlag_low n kind).1
  unfold State.capTier State.isSet State.setFlag
  simp only [State.get_put_apart (Memory.wf_regs (Memory.wf_put h _ _)) (F.SCH_BST_CAP n) _ rfl fits
      (breachFlag_apart n kind (of_decide_eq_true rfl)),
    State.get_put_apart (Memory.wf_regs h) (F.SCH_BST_CAPLEFT n) _ rfl fits (breachFlag_apart n kind (of_decide_eq_true rfl))]

/-- What acting on a breach can do: nothing to any register, or a tier cap. -/
theorem State.actBreach_cases (s : State) (n : Sector) :
    (Keeps [.secs, .eng] s (s.actBreach n)) ∨ s.actBreach n = (s.onSec n fun x => { x with acted := true }).capTier n := by
  unfold State.actBreach
  dsimp only
  repeat' split
  · exact .inl (Keeps.refl _ s)
  · exact .inl ((Keeps.onSec s n _).mono (by simp))
  · exact .inr rfl
  · exact .inl (((Keeps.onSec s n _).append (Keeps.callReset _ n 1)).mono (by simp))

theorem Keeps.actBreach (s : State) (n : Sector) : Keeps [.regs, .flips, .secs, .eng] s (s.actBreach n) := by
  obtain h | h := State.actBreach_cases s n
  · exact h.mono (by simp)
  · exact h ▸ ((Keeps.onSec s n _).append (Keeps.capTier _ n)).mono (by simp)

theorem RegsKept.actBreach {s : State} (h : Memory.wf s = true) (n : Sector) : RegsKept [A.SCH_BST n] s (s.actBreach n) := by
  obtain hk | hk := State.actBreach_cases s n
  · exact .of_regs (hk .regs (by simp))
  · exact hk ▸ RegsKept.capTier (s := s.onSec n _) (Memory.wf_onSec h n _) n

theorem State.isSet_actBreach {s : State} (h : Memory.wf s = true) (n : Sector) (kind : Nat) :
    (s.actBreach n).isSet (breachFlag n kind) = s.isSet (breachFlag n kind) := by
  obtain hk | hk := State.actBreach_cases s n
  · exact (RegsKept.of_regs (but := []) (hk .regs (by simp))).isSet (by simp)
  · rw [hk]
    exact State.isSet_capTier (s := s.onSec n _) (Memory.wf_onSec h n _) n kind

/-- What every breach leaves (02 R45). -/
theorem State.breach_spec {s : State} (h : Memory.wf s = true) (n : Sector) (kind tier frame low : Nat) :
    let t := s.breach n kind tier frame low
    t.isSet (breachFlag n kind) = true ∧ t.event 0 0 = true ∧ Keeps [.regs, .flips, .mem, .secs, .eng] s t ∧
      RegsKept [A.SCH_BST n, A.SEC_EVL 0, A.SEC_EVH 0, A.SEC_EVL n, A.SEC_EVH n] s t := by
  have hmark := Memory.wf_markBreach h n kind
  have hlog := Memory.wf_logBreach hmark n kind tier frame low
  have hregs := RegsKept.logBreach (s.markBreach n kind) n kind tier frame low
  have hact := RegsKept.actBreach hlog n
  rw [State.breach_eq]
  refine ⟨?_, ?_, ?_, ?_⟩
  · rw [State.isSet_actBreach hlog, hregs.isSet (by simp), State.isSet_markBreach h]
  · have notEvent (a : Nat) (ha : 0x200 ≤ a) : a ∉ [A.SCH_BST n] := by
      simp only [A.SCH_BST, List.mem_singleton]
      omega
    rw [hact.event (notEvent _ (by decide)) (notEvent _ (by decide)), hregs.event (by simp) (by simp), State.event_markBreach h]
  · exact (((Keeps.markBreach s n kind).append (Keeps.logBreach _ n kind tier frame low)).append (Keeps.actBreach _ n)).mono (by simp)
  · exact (((RegsKept.markBreach h n kind).append hregs).append hact).mono (by simp)

/-- A post to a full queue is a breach POSTQ of the sector, in its running segment or its last. -/
theorem State.postBreach_eq (s : State) (n : Sector) : ∃ tier frame low, s.postBreach n = s.breach n 3 tier frame low := by
  unfold State.postBreach
  cases hc : s.eng.cur with
  | none => exact ⟨_, _, _, rfl⟩
  | some g =>
    by_cases hg : g.sec = n
    · exact ⟨g.tier, g.frame, g.idx * 64 + 0, by simp [State.breachHere, hc, hg]⟩
    · exact ⟨_, _, _, if_neg hg⟩

/-! ## Registers that hold RW fields alone -/

/-- Row `r` at its index `ix` is the register at resolved address `a`, written as a whole by `w` and read as it is shown; its bits `m` are RW,
those of `k` keyed and those of `q` S fields, and no other bit can be written. -/
structure RwRegister (r : RegRow) (ix : List Nat) (a : Nat) (w : Who) (m k q : Word) : Prop where
  resolved : resolve (BitVec.ofNat 12 a) = a
  whole : a ∉ [A.SYS_KEY, A.CLK_MDIV, A.SYS_RST, A.MEM_OTPD] ∧ w ∉ [.perField, .lockHolder]
  row : regAt a = some (r, ix)
  writer : r.writer = w
  rwBits : (r.maskOf fun f => decide (f.acc = .rw)) = m
  actBits : (r.maskOf fun f => decide (f.acc = .wo ∨ f.acc = .w1c)) = 0
  w1cBits : (r.maskOf fun f => decide (f.acc = .w1c)) = 0
  keyedBits : r.maskOf (·.keyed) = k
  slowBits : r.slowBits = q

/-- The same of an address, in a form that evaluates. -/
def isRwRegister (a : Nat) (w : Who) (m k q : Word) : Bool :=
  decide (resolve (BitVec.ofNat 12 a) = a) &&
  decide (a ∉ [A.SYS_KEY, A.CLK_MDIV, A.SYS_RST, A.MEM_OTPD] ∧ w ∉ [.perField, .lockHolder]) &&
  (regAt a).any fun p => decide (p.1.writer = w ∧ (p.1.maskOf fun f => decide (f.acc = .rw)) = m ∧
    (p.1.maskOf fun f => decide (f.acc = .wo ∨ f.acc = .w1c)) = 0 ∧ (p.1.maskOf fun f => decide (f.acc = .w1c)) = 0 ∧
    p.1.maskOf (·.keyed) = k ∧ p.1.slowBits = q)

theorem exists_rwRegister {a : Nat} {w : Who} {m k q : Word} (h : isRwRegister a w m k q = true) : ∃ r ix, RwRegister r ix a w m k q := by
  simp only [isRwRegister, Bool.and_eq_true, decide_eq_true_eq, Option.any_eq_true] at h
  obtain ⟨⟨resolved, whole⟩, ⟨r, ix⟩, row, writer, rwBits, actBits, w1cBits, keyedBits, slowBits⟩ := h
  exact ⟨r, ix, resolved, whole, row, writer, rwBits, actBits, w1cBits, keyedBits, slowBits⟩

/-- All bits of a word, as `simp` writes `BitVec.allOnes 18`. -/
@[simp] theorem word_and_ones (x : Word) : x &&& 262143#18 = x := BitVec.and_allOnes

/-- A write of such a register judged: refused to who may not write it, refused for want of the key where it changes a keyed bit, else it
reaches all the bits for which the key is not missing. -/
theorem RwRegister.judge {r : RegRow} {ix : List Nat} {a : Nat} {w : Who} {m k q : Word} (h : RwRegister r ix a w m k q) (s : State)
    (acc : Accessor) (i : Nat) (v : Word) :
    s.judge acc a r i v =
      if s.mayAs acc w r.base i = false then ⟨true, false, 0⟩
      else if s.armed = false ∧ (v ^^^ s.readNow a r) &&& m &&& k ≠ 0 then ⟨false, true, 0⟩
      else ⟨false, false, m &&& if s.armed then BitVec.allOnes 18 else ~~~k⟩ := by
  obtain ⟨hwhole, hown⟩ := h.whole
  simp only [List.mem_cons, List.not_mem_nil, or_false, not_or] at hwhole hown
  have hshared : r.shared = false := by simp [RegRow.shared, h.writer, hown]
  have hbits : s.ownBits acc a r i = if s.mayAs acc w r.base i then BitVec.allOnes 18 else 0 := by
    simp [State.ownBits, hwhole, h.writer]
  simp only [State.judge, hbits, hshared, h.rwBits, h.actBits, h.keyedBits]
  cases s.mayAs acc w r.base i with
  | false => simp
  | true =>
    cases s.armed with
    | false => by_cases ht : (v ^^^ s.readNow a r) &&& m &&& k = 0#18 <;> simp [ht]
    | true => simp

/-! ## What a write of such a register does -/

section
variable {r : RegRow} {ix : List Nat} {a : Nat} {w : Who} {m k q : Word} {s : State} {acc : Accessor} {v : Word}

/-- The bits a write reaches that is not refused: all, but the keyed ones only with the key. -/
def State.keyBits (s : State) (m k : Word) : Word := m &&& if s.armed then BitVec.allOnes 18 else ~~~k

/-- A write to a register other than SYS_KEY, CORE being ON, by what it is judged to be. -/
theorem RwRegister.written_of_judge (h : RwRegister r ix a w m k q) (on : s.isOn .core = true) {denied keyed : Bool} {b : Word}
    (hj : s.judge acc a r (ix.headD 0) v = ⟨denied, keyed, b⟩) :
    s.written acc a v =
      if b &&& q ≠ 0 ∧ s.postsFull = true then (if acc.isProg then s.disarm.postBreach acc.sector else s)
      else
        let t := if keyed then (s.disarm.bump F.SYS_KEYERR_KDN).log 8 acc.sector.val (keyIndex acc) 2 a else s.disarm
        let t := if denied then t.refused acc else t
        if denied || keyed then t else (t.actWrite acc a r b v).state := by
  have hkey : a ≠ A.SYS_KEY := fun e => h.whole.1 (by simp [e])
  simp only [State.written, State.writeReg, h.resolved, on, hkey, h.row, h.slowBits, hj, Bool.not_true, Bool.false_eq_true, if_false]
  split
  · split <;> rfl
  · split <;> rfl

/-- Who may not write the register is refused, and the key disarmed. -/
theorem RwRegister.written_denied (h : RwRegister r ix a w m k q) (on : s.isOn .core = true)
    (hmay : s.mayAs acc w r.base (ix.headD 0) = false) : s.written acc a v = s.disarm.refused acc := by
  have hj := h.judge s acc (ix.headD 0) v
  rw [if_pos hmay] at hj
  simp [h.written_of_judge on hj]

/-- Without the key, a write that would change a keyed bit is refused, counted and logged. -/
theorem RwRegister.written_keyed (h : RwRegister r ix a w m k q) (on : s.isOn .core = true)
    (hmay : s.mayAs acc w r.base (ix.headD 0) = true) (harmed : s.armed = false) (hchange : (v ^^^ s.readNow a r) &&& m &&& k ≠ 0) :
    s.written acc a v = (s.bump F.SYS_KEYERR_KDN).log 8 acc.sector.val (keyIndex acc) 2 a := by
  have hj := h.judge s acc (ix.headD 0) v
  rw [if_neg (by rw [hmay]; decide), if_pos ⟨harmed, hchange⟩] at hj
  simp [h.written_of_judge on hj, State.disarm_of_disarmed harmed]

/-- A write by who may, with the key or without a keyed bit to change, is not refused. -/
theorem RwRegister.judge_taken (h : RwRegister r ix a w m k q) (hmay : s.mayAs acc w r.base (ix.headD 0) = true)
    (hkey : s.armed = true ∨ (v ^^^ s.readNow a r) &&& m &&& k = 0) :
    s.judge acc a r (ix.headD 0) v = ⟨false, false, s.keyBits m k⟩ := by
  have hnot : ¬(s.armed = false ∧ (v ^^^ s.readNow a r) &&& m &&& k ≠ 0) := by
    rintro ⟨ha, hc⟩
    exact hkey.elim (ha ▸ Bool.false_ne_true) hc
  rw [h.judge, if_neg (by rw [hmay]; decide), if_neg hnot]
  rfl

/-- Such a write reaches its bits, and the key is disarmed. -/
theorem RwRegister.written_taken (h : RwRegister r ix a w m k q) (on : s.isOn .core = true)
    (hmay : s.mayAs acc w r.base (ix.headD 0) = true) (hkey : s.armed = true ∨ (v ^^^ s.readNow a r) &&& m &&& k = 0)
    (hroom : s.keyBits m k &&& q = 0 ∨ s.pwr.posts.length < 8) :
    s.written acc a v = (s.disarm.actWrite acc a r (s.keyBits m k) v).state := by
  have hpost : ¬(s.keyBits m k &&& q ≠ 0 ∧ s.postsFull = true) := by
    rintro ⟨hne, hfull⟩
    exact hroom.elim hne (Nat.not_lt.mpr (of_decide_eq_true hfull))
  rw [h.written_of_judge on (h.judge_taken hmay hkey), if_neg hpost]
  rfl

/-- With an S bit to write and the post queue full, a program's write is a breach, and the host's is not made. -/
theorem RwRegister.written_full (h : RwRegister r ix a w m k q) (on : s.isOn .core = true)
    (hmay : s.mayAs acc w r.base (ix.headD 0) = true) (hkey : s.armed = true ∨ (v ^^^ s.readNow a r) &&& m &&& k = 0)
    (hslow : s.keyBits m k &&& q ≠ 0) (hfull : 8 ≤ s.pwr.posts.length) :
    s.written acc a v = if acc.isProg then s.disarm.postBreach acc.sector else s := by
  rw [h.written_of_judge on (h.judge_taken hmay hkey), if_pos ⟨hslow, decide_eq_true hfull⟩]

/-- With the key, or where no bit is keyed, a write reaches every bit that can be written. -/
theorem State.keyBits_all (hkey : s.armed = true ∨ k = 0) : s.keyBits m k = m := by
  obtain ha | hk := hkey
  · simp [State.keyBits, ha]
  · cases ha : s.armed <;> simp [State.keyBits, ha, hk]

/-! ## How the bits act -/

/-- Bits of which none is an S bit act at once. -/
theorem RwRegister.actWrite_core (h : RwRegister r ix a w m k q) {b : Word} (hb : b ≠ 0) (hq : b &&& q = 0) :
    s.actWrite acc a r b v = s.coreWrite acc a r b v := by
  have hall : b &&& ~~~(0 : Word) = b := BitVec.and_allOnes
  simp only [State.actWrite, h.slowBits, hq, hall, if_true, if_neg hb]

/-- No bit, no effect. -/
theorem State.actWrite_zero : (s.actWrite acc a r 0 v).state = s := by simp [State.actWrite]

/-- S bits alone enter the post queue; PERIOD is looked at first. -/
theorem RwRegister.actWrite_slow (h : RwRegister r ix a w m k q) {b : Word} (hb : b ≠ 0) (hq : b &&& q = b) :
    (s.actWrite acc a r b v).state = if a = A.SCH_FRAME then s.writePeriod acc v else s.post acc a b v := by
  simp only [State.actWrite, h.slowBits, hq, BitVec.and_not_self, if_true, if_neg hb]
  split <;> rfl

/-- The RW bits among `b` take the value. -/
theorem RwRegister.word_plainWrite (h : RwRegister r ix a w m k q) (hs : Memory.wf s = true) (b : Word) :
    (s.plainWrite a r b v).word a = (s.word a &&& ~~~(m &&& b)) ||| (v &&& (m &&& b)) := by
  have hregs := Memory.wf_regs hs
  simp only [State.plainWrite, h.rwBits, h.w1cBits, State.word_setBits (State.regs_wf_setBits hregs ..), State.word_setBits hregs]
  simp

end

theorem Keeps.plainWrite (s : State) (a : Nat) (r : RegRow) (m v : Word) : Keeps [.regs, .flips] s (s.plainWrite a r m v) :=
  (Keeps.setBits s a _ v).trans (Keeps.setBits _ a _ 0)

theorem RegsKept.plainWrite {s : State} (h : Memory.wf s = true) (a : Nat) (r : RegRow) (m v : Word) :
    RegsKept [a] s (s.plainWrite a r m v) :=
  (RegsKept.setBits h a _ v).trans (RegsKept.setBits (Memory.wf_setBits h ..) a _ 0)

/-- What a register without S fields returns to a read is what it shows now. -/
theorem RwRegister.readNow_fast {r : RegRow} {ix : List Nat} {a : Nat} {w : Who} {m k : Word} (h : RwRegister r ix a w m k 0) (s : State) :
    s.readNow a r = s.live a := by
  have hotp : a ≠ A.MEM_OTPD := fun e => h.whole.1 (by simp [e])
  simp [State.readNow, hotp, State.shown, h.slowBits]

/-! ## Plain keyed registers -/

/-- A register with keyed RW fields over the bits `m` and nothing else, written by sector 0, that shows what it holds and of which a write
starts nothing. -/
structure PlainKeyed (r : RegRow) (ix : List Nat) (a : Nat) (m : Word) : Prop extends RwRegister r ix a .s0 m m 0 where
  bits : m ≠ 0
  shows : ∀ s : State, s.live a = s.word a
  plain : ∀ (s : State) (acc : Accessor) (b v : Word), (s.coreWrite acc a r b v).state = s.plainWrite a r b v

/-- The registers that the statement of register writes names as plain, with the bits of their fields. -/
def plainKeyed (n : Sector) : List (Nat × Word) :=
  [(A.SEC_QOS n, 0x3FFFF), (A.SEC_EQ n, 0x3FFFF), (A.SEC_LTQ n, 0x3FF), (A.LOCK_PRI, 0xFF), (A.LOCK_HOLDMAX, 0xFFF), (A.SEC_HATT, 7),
    (A.NET_CTL, 0x3FFFF)]

theorem plainKeyed_map : ∀ n, ∀ p ∈ plainKeyed n, isRwRegister p.1 .s0 p.2 p.2 0 = true ∧ p.2 ≠ 0 := by decide

/-- The scheduler's, sectors' and locks' registers show what they hold. -/
theorem State.live_sector {a : Nat} (hlo : 0x0C0 ≤ a) (hhi : a < 0x300) (s : State) : s.live a = s.word a := by
  simp only [State.live, if_neg (show ¬a < 0x040 by omega), if_neg (show ¬a < 0x0C0 by omega), if_pos hhi]

theorem State.live_netCtl (s : State) : s.live A.NET_CTL = s.word A.NET_CTL := by simp [State.live, State.liveNet, A.NET_CTL]

theorem State.coreWrite_sector {a : Nat} (hlo : 0x200 ≤ a) (hhi : a < 0x300) (s : State) (acc : Accessor) (r : RegRow) (b v : Word) :
    (s.coreWrite acc a r b v).state = s.writeSec a r b v := by
  simp only [State.coreWrite, if_neg (show ¬a < 0x100 by omega), if_neg (show ¬a < 0x200 by omega), if_pos hhi]

/-- Quotas (05 Table SEC-13), lock parameters (Table SEC-22) and SEC_HATT start nothing. -/
theorem State.writeSec_plain {a : Nat}
    (ha : 6 ≤ (a - 0x200) % 32 ∧ (a - 0x200) % 32 < 0x0E ∨ 0x280 ≤ a ∨ a = A.SEC_HATT) (hn : a ≠ A.LOCK_NH) (s : State)
    (r : RegRow) (b v : Word) : s.writeSec a r b v = s.plainWrite a r b v := by
  by_cases hp : 0x280 ≤ a ∨ a = A.SEC_HATT
  · simp only [State.writeSec, if_neg hn, if_pos hp]
  · have hk : 6 ≤ (a - 0x200) % 32 ∧ (a - 0x200) % 32 < 0x0E := ha.resolve_right hp
    simp only [State.writeSec, if_neg hn, if_neg hp, if_neg (show ¬(a - 0x200) % 32 = 0 by omega),
      if_neg (show ¬(a - 0x200) % 32 ≤ 5 by omega), if_neg (show ¬(a - 0x200) % 32 = 0x0E by omega),
      if_neg (show ¬(a - 0x200) % 32 = 0x0F by omega), if_neg (show ¬(a - 0x200) % 32 = 0x1C by omega)]

theorem State.coreWrite_netCtl (s : State) (acc : Accessor) (r : RegRow) (b v : Word) :
    (s.coreWrite acc A.NET_CTL r b v).state = s.plainWrite A.NET_CTL r b v := by
  simp [State.coreWrite, State.writeNet, A.NET_CTL, A.NET_ERRC]

theorem plainKeyed_places : ∀ n, ∀ p ∈ plainKeyed n, p.1 = A.NET_CTL ∨ 0x200 ≤ p.1 ∧ p.1 < 0x300 ∧ p.1 ≠ A.LOCK_NH ∧
    (6 ≤ (p.1 - 0x200) % 32 ∧ (p.1 - 0x200) % 32 < 0x0E ∨ 0x280 ≤ p.1 ∨ p.1 = A.SEC_HATT) := by decide

theorem plainKeyed_shows {n : Sector} {p : Nat × Word} (hp : p ∈ plainKeyed n) (s : State) : s.live p.1 = s.word p.1 := by
  obtain hnet | ⟨hlo, hhi, -, -⟩ := plainKeyed_places n p hp
  · exact hnet ▸ State.live_netCtl s
  · exact State.live_sector (by omega) hhi s

theorem plainKeyed_plain {n : Sector} {p : Nat × Word} (hp : p ∈ plainKeyed n) (s : State) (acc : Accessor) (r : RegRow) (b v : Word) :
    (s.coreWrite acc p.1 r b v).state = s.plainWrite p.1 r b v := by
  obtain hnet | ⟨hlo, hhi, hn, hk⟩ := plainKeyed_places n p hp
  · exact hnet ▸ State.coreWrite_netCtl s acc r b v
  · rw [State.coreWrite_sector hlo hhi, State.writeSec_plain hk hn]

theorem exists_plainKeyed {n : Sector} {p : Nat × Word} (hp : p ∈ plainKeyed n) : ∃ r ix, PlainKeyed r ix p.1 p.2 := by
  obtain ⟨hmap, hbits⟩ := plainKeyed_map n p hp
  obtain ⟨r, ix, h⟩ := exists_rwRegister hmap
  exact ⟨r, ix, h, hbits, plainKeyed_shows hp, fun s acc => plainKeyed_plain hp s acc r⟩

/-! ## SYS_KEY written -/

theorem completes_sysKeyWrite {acc : Accessor} {v : Word} {s : State} {P : State → Prop} (on : s.isOn .core = true)
    (h : P (s.keyWrite acc v)) : Completes (.sysKeyWrite acc v) s P :=
  ⟨_, congrArg Host.Outcome.next (if_pos on), h⟩

/-- A request that joins the queue as it stood at an earlier state of the same tick. -/
theorem State.log_queue_kept {but : List Part} {s t : State} (h : Keeps but s t) (hm : .mem ∉ but) (ht : .tick ∉ but)
    (room : s.mem.logq.length < 4) (cls sec idx code detail : Nat) :
    (t.log cls sec idx code detail).mem.logq = s.mem.logq ++ [⟨cls, sec, idx, code, BitVec.ofNat 18 detail, s.tick⟩] := by
  have hmem : t.mem = s.mem := h .mem hm
  have htick : t.tick = s.tick := h .tick ht
  rw [State.log_queue (hmem ▸ room), hmem, htick]

/-- A counter as it counts in a state where its register is kept. -/
theorem State.get_bump_kept {but : List Nat} {s t : State} (h : RegsKept but s t) (ht : Memory.wf t = true) {f : Fld} (hf : f.fits = true)
    (hb : f.addr ∉ but) : (t.bump f).get f = min f.max (s.get f + 1) := by
  rw [State.get_bump_self (Memory.wf_regs ht) f hf, h.get hb]
  exact Nat.min_comm ..

/-- A value other than the key disarms it, counts KERR and is logged. -/
theorem State.keyWrite_other {s : State} (hs : Memory.wf s = true) {acc : Accessor} {v : Word} (hv : v ≠ 0x2C3A5) :
    let t := s.keyWrite acc v
    t.armed = false ∧
      (s.mem.logq.length < 4 → t.mem.logq = s.mem.logq ++ [⟨8, acc.sector.val, keyIndex acc, 1, BitVec.ofNat 18 v.toNat, s.tick⟩]) ∧
      t.get F.SYS_KEYERR_KERR = min F.SYS_KEYERR_KERR.max (s.get F.SYS_KEYERR_KERR + 1) ∧
      RegsKept [A.SYS_KEY, A.SYS_KEYERR] s t ∧ Keeps [.regs, .flips, .host, .mem] s t := by
  have ht : s.keyWrite acc v = (s.disarm.bump F.SYS_KEYERR_KERR).log 8 acc.sector.val (keyIndex acc) 1 v.toNat := if_neg hv
  have hdis := RegsKept.disarm hs
  have hwf := Memory.wf_disarm hs
  have hbump := RegsKept.bump hwf F.SYS_KEYERR_KERR
  have hlog := RegsKept.log (s.disarm.bump F.SYS_KEYERR_KERR) 8 acc.sector.val (keyIndex acc) 1 v.toNat
  have hkeep := (Keeps.disarm s).append (Keeps.bump s.disarm F.SYS_KEYERR_KERR)
  rw [ht]
  refine ⟨?_, fun room => ?_, ?_, ?_, ?_⟩
  · rw [hlog.armed (by simp), hbump.armed (by decide), State.armed_disarm hs]
  · exact State.log_queue_kept hkeep (by simp) (by simp) room ..
  · rw [hlog.get (by simp), State.get_bump_kept hdis hwf rfl (by decide)]
  · exact ((hdis.append hbump).append hlog).mono (by decide)
  · exact (hkeep.append (Keeps.log _ _ _ _ _ _)).mono (by decide)

/-! ## Registers written -/

theorem completes_registerWrite {acc : Accessor} {a : Nat} {v : Word} {s : State} {P : State → Prop} (h : P (s.written acc a v)) :
    Completes (.registerWrite acc (BitVec.ofNat 12 a) v) s P := ⟨_, rfl, h⟩

theorem completes_periodWrite {acc : Accessor} {v : Word} {s : State} {P : State → Prop} (h : P (s.written acc A.SCH_FRAME v)) :
    Completes (.periodWrite acc v) s P := ⟨_, rfl, h⟩

/-- With CORE not ON nothing is written (06 R142). -/
theorem State.writeReg_off {s : State} (off : s.isOn .core = false) (acc : Accessor) (a : BitVec 12) (v : Word) :
    (s.writeReg acc a v).state = s := by simp [State.writeReg, off]

theorem State.written_sysKey (s : State) (acc : Accessor) (v : Word) :
    s.written acc A.SYS_KEY v = if s.isOn .core then s.keyWrite acc v else s := by
  have hres : resolve (BitVec.ofNat 12 A.SYS_KEY) = A.SYS_KEY := by decide
  cases on : s.isOn .core <;> simp [State.written, State.writeReg, hres, on]

/-- A refusal for want of rights disarms the key, and shows to a program in REGDN alone. -/
theorem State.disarm_refused_spec {s : State} (hs : Memory.wf s = true) (acc : Accessor) :
    let t := s.disarm.refused acc
    t.armed = false ∧ RegsKept [A.SYS_KEY, A.SEQ_XST acc.sector] s t ∧ Keeps [.regs, .flips, .host] s t ∧
      (acc.isProg = true → t.isSet (F.SEQ_XST_REGDN acc.sector) = true) ∧ (acc.isProg = false → RegsKept [A.SYS_KEY] s t) := by
  have hdis := RegsKept.disarm hs
  have href := RegsKept.refused (Memory.wf_disarm hs) acc
  have hkey : A.SYS_KEY ∉ [A.SEQ_XST acc.sector] := by
    simp only [A.SYS_KEY, A.SEQ_XST, List.mem_singleton]
    omega
  refine ⟨?_, hdis.append href, ((Keeps.disarm s).append (Keeps.refused _ acc)).mono (by decide), ?_, ?_⟩
  · rw [href.armed hkey, State.armed_disarm hs]
  · intro hprog
    cases acc with
    | prog n => exact State.isSet_regdn_refused (Memory.wf_disarm hs) n
    | host n => cases hprog
  · intro hhost
    cases acc with
    | prog n => cases hhost
    | host n => exact hdis

theorem State.mayAs_s0 (s : State) (acc : Accessor) (base i : Nat) : s.mayAs acc .s0 base i = decide (acc.sector = 0) := rfl

/-- The bits of `m` that a write of `v` would change are those in which `v` differs there from the word held. -/
theorem changes_eq_zero_iff (v w m : Word) : (v ^^^ w) &&& m &&& m = 0 ↔ v &&& m = w &&& m := by
  have hdistrib : (v ^^^ w) &&& m &&& m = (v &&& m) ^^^ (w &&& m) := by
    ext i hi
    simp only [BitVec.getElem_and, BitVec.getElem_xor]
    cases v[i] <;> cases w[i] <;> cases m[i] <;> rfl
  rw [hdistrib]
  exact BitVec.xor_eq_zero_iff

section
variable {r : RegRow} {ix : List Nat} {a : Nat} {m : Word} {s : State} {acc : Accessor} {v : Word}

/-- Sector 0 with the key: the fields take the value. -/
theorem PlainKeyed.written_armed (h : PlainKeyed r ix a m) (hs : Memory.wf s = true) (on : s.isOn .core = true) (h0 : acc.sector = 0)
    (harmed : s.armed = true) :
    let t := s.written acc a v
    t.armed = false ∧ t.word a = (s.word a &&& ~~~ m) ||| (v &&& m) ∧ RegsKept [A.SYS_KEY, a] s t ∧ Keeps [.regs, .flips, .host] s t := by
  have hkey : a ∉ [A.SYS_KEY] := fun e => h.whole.1 (by simp_all)
  have hwf := Memory.wf_disarm hs
  have hplain := RegsKept.plainWrite hwf a r m v
  have ht : s.written acc a v = s.disarm.plainWrite a r m v := by
    rw [h.written_taken on (decide_eq_true h0) (.inl harmed) (.inl BitVec.and_zero), State.keyBits_all (.inl harmed),
      h.actWrite_core h.bits BitVec.and_zero, h.plain]
  rw [ht]
  refine ⟨?_, ?_, (RegsKept.disarm hs).append hplain, ((Keeps.disarm s).append (Keeps.plainWrite _ a r m v)).mono (by decide)⟩
  · rw [hplain.armed (by simpa [eq_comm] using hkey), State.armed_disarm hs]
  · rw [h.word_plainWrite hwf, RegsKept.disarm hs a hkey, BitVec.and_self]

/-- Sector 0 without the key, a field to change: the write is refused, counted and logged. -/
theorem PlainKeyed.written_locked (h : PlainKeyed r ix a m) (hs : Memory.wf s = true) (on : s.isOn .core = true) (h0 : acc.sector = 0)
    (harmed : s.armed = false) (hchange : v &&& m ≠ s.word a &&& m) :
    let t := s.written acc a v
    (s.mem.logq.length < 4 → t.mem.logq = s.mem.logq ++ [⟨8, acc.sector.val, keyIndex acc, 2, BitVec.ofNat 18 a, s.tick⟩]) ∧
      t.get F.SYS_KEYERR_KDN = min F.SYS_KEYERR_KDN.max (s.get F.SYS_KEYERR_KDN + 1) ∧ RegsKept [A.SYS_KEYERR] s t ∧
      Keeps [.regs, .flips, .mem] s t := by
  have hread : s.readNow a r = s.word a := (h.readNow_fast s).trans (h.shows s)
  have ht := h.written_keyed on (decide_eq_true h0) harmed (v := v) (by rw [hread, ne_eq, changes_eq_zero_iff]; exact hchange)
  have hbump := Keeps.bump s F.SYS_KEYERR_KDN
  have hlog := RegsKept.log (s.bump F.SYS_KEYERR_KDN) 8 acc.sector.val (keyIndex acc) 2 a
  rw [ht]
  refine ⟨fun room => State.log_queue_kept hbump (by simp) (by simp) room .., ?_, (RegsKept.bump hs _).append hlog,
    (hbump.append (Keeps.log _ _ _ _ _ _)).mono (by decide)⟩
  rw [hlog.get (by simp), State.get_bump_kept (.refl [] s) hs rfl (by simp)]

/-- Sector 0 without the key, no field to change: nothing happens. -/
theorem PlainKeyed.written_same (h : PlainKeyed r ix a m) (on : s.isOn .core = true) (h0 : acc.sector = 0) (harmed : s.armed = false)
    (hsame : v &&& m = s.word a &&& m) : s.written acc a v = s := by
  have hread : s.readNow a r = s.word a := (h.readNow_fast s).trans (h.shows s)
  have hbits : s.keyBits m m = 0 := by simp [State.keyBits, harmed, BitVec.and_not_self]
  have hkey : (v ^^^ s.readNow a r) &&& m &&& m = 0 := by rw [hread, changes_eq_zero_iff]; exact hsame
  rw [h.written_taken on (decide_eq_true h0) (.inr hkey) (.inl BitVec.and_zero), hbits, State.actWrite_zero, State.disarm_of_disarmed harmed]

/-- A guest is refused. -/
theorem PlainKeyed.written_guest (h : PlainKeyed r ix a m) (on : s.isOn .core = true) (h0 : acc.sector ≠ 0) :
    s.written acc a v = s.disarm.refused acc := h.written_denied on (decide_eq_false h0)

end

section
variable {s : State} {acc : Accessor} {v : Word}

/-! ## LANE_CTL (09 Table LAN-8) -/

theorem exists_laneCtl (i : LaneId) : ∃ r, RwRegister r [i.val] (A.LANE_CTL i) .lane 0x38FFF 0 0 := by
  have hmap : ∀ i : LaneId, isRwRegister (A.LANE_CTL i) .lane 0x38FFF 0 0 = true ∧
      (regAt (A.LANE_CTL i)).map (·.2) = some [i.val] := by decide
  obtain ⟨r, ix, h⟩ := exists_rwRegister (hmap i).1
  have hix := (hmap i).2
  rw [h.row] at hix
  obtain rfl := Option.some.inj hix
  exact ⟨r, h⟩

theorem State.mayAs_lane (s : State) (acc : Accessor) (base : Nat) (i : LaneId) :
    s.mayAs acc .lane base i.val = s.hasLane acc.sector i :=
  congrArg (s.hasLane acc.sector) (Fin.ext (Nat.mod_eq_of_lt i.isLt))

theorem State.coreWrite_laneCtl (s : State) (acc : Accessor) (i : LaneId) (r : RegRow) (b v : Word) :
    (s.coreWrite acc (A.LANE_CTL i) r b v).state = s.plainWrite (A.LANE_CTL i) r b v := by
  have hk : (A.LANE_CTL i - 0x300) % 64 = 2 := by simp only [A.LANE_CTL]; omega
  have ha : 0x300 ≤ A.LANE_CTL i ∧ A.LANE_CTL i < 0x400 := by simp only [A.LANE_CTL]; omega
  simp only [State.coreWrite, State.writeLane, hk, if_neg (show ¬A.LANE_CTL i < 0x100 by omega), if_neg (show ¬A.LANE_CTL i < 0x200 by omega),
    if_neg (show ¬A.LANE_CTL i < 0x300 by omega), if_pos ha.2, if_neg (show ¬0x800 ≤ A.LANE_CTL i by omega)]
  rfl

/-- The lane's grantee needs no key. -/
theorem State.written_laneCtl (hs : Memory.wf s = true) (on : s.isOn .core = true) (i : LaneId) (hlane : s.hasLane acc.sector i = true) :
    let t := s.written acc (A.LANE_CTL i) v
    t.armed = false ∧ t.word (A.LANE_CTL i) = (s.word (A.LANE_CTL i) &&& 0x7000) ||| (v &&& 0x38FFF) ∧
      RegsKept [A.SYS_KEY, A.LANE_CTL i] s t := by
  obtain ⟨r, h⟩ := exists_laneCtl i
  have hkey : A.LANE_CTL i ∉ [A.SYS_KEY] := by
    simp only [A.LANE_CTL, A.SYS_KEY, List.mem_singleton]
    omega
  have hwf := Memory.wf_disarm hs
  have hplain := RegsKept.plainWrite hwf (A.LANE_CTL i) r 0x38FFF v
  have ht : s.written acc (A.LANE_CTL i) v = s.disarm.plainWrite (A.LANE_CTL i) r 0x38FFF v := by
    rw [h.written_taken on ((s.mayAs_lane acc r.base i).trans hlane) (.inr BitVec.and_zero) (.inl BitVec.and_zero),
      State.keyBits_all (.inr rfl), h.actWrite_core (by decide) BitVec.and_zero, State.coreWrite_laneCtl]
  rw [ht]
  refine ⟨?_, ?_, (RegsKept.disarm hs).append hplain⟩
  · rw [hplain.armed (by simpa [eq_comm] using hkey), State.armed_disarm hs]
  · rw [h.word_plainWrite hwf, RegsKept.disarm hs _ hkey]
    rfl

theorem State.written_laneCtl_other (on : s.isOn .core = true) (i : LaneId) (hlane : s.hasLane acc.sector i = false) :
    s.written acc (A.LANE_CTL i) v = s.disarm.refused acc := by
  obtain ⟨r, h⟩ := exists_laneCtl i
  exact h.written_denied on ((s.mayAs_lane acc r.base i).trans hlane)

/-! ## SEC_WIN (05 R115) -/

theorem exists_secWin (n : Sector) : ∃ r ix, RwRegister r ix (A.SEC_WIN n) .s0 0x1FFF 0x1FFF 0 :=
  have hmap : ∀ n : Sector, isRwRegister (A.SEC_WIN n) .s0 0x1FFF 0x1FFF 0 = true := by decide
  exists_rwRegister (hmap n)

theorem RwRegister.writableBits {r : RegRow} {ix : List Nat} {a : Nat} {w : Who} {m k q : Word} (h : RwRegister r ix a w m k q) (v : Word) :
    writableBits a v = v &&& m := by
  simp only [Machine.writableBits, h.row, h.rwBits]

theorem State.coreWrite_secWin (s : State) (acc : Accessor) (n : Sector) (r : RegRow) (b v : Word) :
    (s.coreWrite acc (A.SEC_WIN n) r b v).state = s.writeGrant n 2 v := by
  have ha : 0x200 ≤ A.SEC_WIN n ∧ A.SEC_WIN n < 0x280 ∧ A.SEC_WIN n ≠ A.LOCK_NH ∧ A.SEC_WIN n ≠ A.SEC_HATT ∧
      (A.SEC_WIN n - 0x200) % 32 = 2 := by
    simp only [A.SEC_WIN, A.LOCK_NH, A.SEC_HATT]
    omega
  have hn : secIx ((A.SEC_WIN n - 0x200) / 32) = n := Fin.ext (by simp only [secIx, A.SEC_WIN]; omega)
  obtain ⟨hlo, hhi, hnh, hhatt, hk⟩ := ha
  rw [State.coreWrite_sector hlo (by omega)]
  simp only [State.writeSec, if_neg hnh, hk, hn, if_neg (show ¬(0x280 ≤ A.SEC_WIN n ∨ A.SEC_WIN n = A.SEC_HATT) by omega)]
  rfl

theorem RegsKept.stopped {but : List Nat} {s t : State} (h : RegsKept but s t) {n : Sector} (hn : A.SEC_CTL n ∉ but) :
    t.stopped n = s.stopped n := by
  simp only [State.stopped, h.get (f := F.SEC_CTL_STATE n) hn]

/-- Whether a window meets another depends on the windows alone. -/
theorem RegsKept.windowClash {but : List Nat} {s t : State} (h : RegsKept but s t) (hw : ∀ m : Sector, A.SEC_WIN m ∉ but) (n : Sector)
    (v : Word) : t.grantClash n 2 v = s.grantClash n 2 v := by
  simp only [State.grantClash, h _ (hw _)]

theorem secWin_ne_sysKey (m : Sector) : A.SEC_WIN m ∉ [A.SYS_KEY] := by
  simp only [A.SEC_WIN, A.SYS_KEY, List.mem_singleton]
  omega

/-- A window written with the key is put to the rules of grants. -/
theorem State.written_secWin (on : s.isOn .core = true) (h0 : acc.sector = 0) (harmed : s.armed = true) (n : Sector) :
    s.written acc (A.SEC_WIN n) v = s.disarm.writeGrant n 2 v := by
  obtain ⟨r, ix, h⟩ := exists_secWin n
  rw [h.written_taken on (decide_eq_true h0) (.inl harmed) (.inl BitVec.and_zero), State.keyBits_all (.inl harmed),
    h.actWrite_core (by decide) BitVec.and_zero, State.coreWrite_secWin]

theorem State.rejects_disarm (hs : Memory.wf s = true) (n : Sector) :
    (s.disarm.grantClash n 2 v = true ∨ 2 ≤ 2 ∧ ¬s.disarm.stopped n = true) ↔ (s.stopped n = false ∨ s.grantClash n 2 v = true) := by
  have hctl : A.SEC_CTL n ∉ [A.SYS_KEY] := by
    simp only [A.SEC_CTL, A.SYS_KEY, List.mem_singleton]
    omega
  rw [(RegsKept.disarm hs).windowClash secWin_ne_sysKey, (RegsKept.disarm hs).stopped hctl]
  simp [or_comm]

theorem State.written_secWin_taken (hs : Memory.wf s = true) (on : s.isOn .core = true) (h0 : acc.sector = 0) (harmed : s.armed = true)
    (n : Sector) (hstop : s.stopped n = true) (hclash : s.grantClash n 2 v = false) :
    let t := s.written acc (A.SEC_WIN n) v
    t.word (A.SEC_WIN n) = v &&& 0x1FFF ∧ RegsKept [A.SYS_KEY, A.SEC_WIN n] s t ∧ Keeps [.regs, .flips, .host] s t := by
  obtain ⟨r, ix, h⟩ := exists_secWin n
  have hwf := Memory.wf_disarm hs
  have haddr : A.SEC_CTL n + 2 = A.SEC_WIN n := by simp only [A.SEC_CTL, A.SEC_WIN]; omega
  have ht : s.written acc (A.SEC_WIN n) v = s.disarm.setWord (A.SEC_WIN n) (v &&& 0x1FFF) := by
    rw [State.written_secWin on h0 harmed, State.writeGrant, if_neg (by rw [State.rejects_disarm hs]; simp [hstop, hclash]), haddr,
      h.writableBits]
  rw [ht]
  refine ⟨?_, (RegsKept.disarm hs).append (RegsKept.setBits hwf _ _ _), ((Keeps.disarm s).append (Keeps.setBits _ _ _ _)).mono (by decide)⟩
  rw [State.setWord, State.word_setBits (Memory.wf_regs hwf), if_pos rfl, BitVec.and_allOnes, BitVec.not_allOnes]
  simp

theorem State.written_secWin_rejected (hs : Memory.wf s = true) (on : s.isOn .core = true) (h0 : acc.sector = 0) (harmed : s.armed = true)
    (n : Sector) (hrej : s.stopped n = false ∨ s.grantClash n 2 v = true) :
    let t := s.written acc (A.SEC_WIN n) v
    t.isSet (F.SEC_STAT_GREJ n) = true ∧ RegsKept [A.SYS_KEY, A.SEC_STAT n] s t ∧ Keeps [.regs, .flips, .host] s t := by
  have hwf := Memory.wf_disarm hs
  have ht : s.written acc (A.SEC_WIN n) v = s.disarm.setFlag (F.SEC_STAT_GREJ n) := by
    rw [State.written_secWin on h0 harmed, State.writeGrant, if_pos ((State.rejects_disarm hs n).mpr hrej)]
  rw [ht]
  exact ⟨State.isSet_setFlag_self (Memory.wf_regs hwf) _ rfl, (RegsKept.disarm hs).append (RegsKept.setFlag hwf (F.SEC_STAT_GREJ n)),
    ((Keeps.disarm s).append (Keeps.setFlag _ _)).mono (by decide)⟩

/-! ## PWR_LRET: an S field (06 R140) -/

theorem exists_pwrLret : ∃ r ix, RwRegister r ix A.PWR_LRET .s0 0xFF 0 0xFF := exists_rwRegister (by decide)

theorem Keeps.post (s : State) (acc : Accessor) (a : Nat) (m v : Word) : Keeps [.pwr] s (s.post acc a m v) := by
  intro p hp
  cases p <;> simp_all [Part.same, State.post]

theorem RegsKept.post (s : State) (acc : Accessor) (a : Nat) (m v : Word) : RegsKept [] s (s.post acc a m v) := .of_regs rfl

theorem State.pwr_disarm_post (s : State) (acc : Accessor) (a : Nat) (m v : Word) :
    (s.disarm.post acc a m v).pwr = { s.pwr with posts := s.pwr.posts ++ [⟨a, m, v, acc, 0⟩] } := by
  have hpwr : s.disarm.pwr = s.pwr := Keeps.disarm s .pwr (by decide)
  simp only [State.post, hpwr]

/-- With a place in the queue the write is posted. -/
theorem State.written_pwrLret (hs : Memory.wf s = true) (on : s.isOn .core = true) (h0 : acc.sector = 0) (hroom : s.pwr.posts.length < 8) :
    let t := s.written acc A.PWR_LRET v
    t.armed = false ∧ t.pwr = { s.pwr with posts := s.pwr.posts ++ [⟨A.PWR_LRET, 0xFF, v, acc, 0⟩] } ∧ RegsKept [A.SYS_KEY] s t ∧
      Keeps [.regs, .flips, .host, .pwr] s t := by
  obtain ⟨r, ix, h⟩ := exists_pwrLret
  have hpost := RegsKept.post s.disarm acc A.PWR_LRET 0xFF v
  have ht : s.written acc A.PWR_LRET v = s.disarm.post acc A.PWR_LRET 0xFF v := by
    rw [h.written_taken on (decide_eq_true h0) (.inr BitVec.and_zero) (.inr hroom), State.keyBits_all (.inr rfl),
      h.actWrite_slow (by decide) (by decide), if_neg (by decide)]
  rw [ht]
  exact ⟨(hpost.armed (by simp)).trans (State.armed_disarm hs), State.pwr_disarm_post s acc .., (RegsKept.disarm hs).append hpost,
    (Keeps.disarm s).append (Keeps.post _ acc _ _ v)⟩

/-- With the queue full it is the program's breach, and the host's is not made. -/
theorem State.written_pwrLret_full (on : s.isOn .core = true) (h0 : acc.sector = 0) (hfull : 8 ≤ s.pwr.posts.length) :
    s.written acc A.PWR_LRET v = if acc.isProg then s.disarm.postBreach 0 else s := by
  obtain ⟨r, ix, h⟩ := exists_pwrLret
  have hbits : s.keyBits 0xFF 0 &&& 0xFF ≠ 0 := by rw [State.keyBits_all (.inr rfl)]; decide
  rw [h.written_full on (decide_eq_true h0) (.inr BitVec.and_zero) hbits hfull, h0]

theorem State.postBreach_spec (hs : Memory.wf s = true) :
    let t := s.disarm.postBreach 0
    t.armed = false ∧ t.pwr.posts = s.pwr.posts ∧ t.isSet (breachFlag 0 3) = true ∧ t.event 0 0 = true ∧
      t.word A.PWR_LRET = s.word A.PWR_LRET := by
  obtain ⟨tier, frame, low, ht⟩ := s.disarm.postBreach_eq 0
  obtain ⟨hflag, hevent, hkeep, hregs⟩ := State.breach_spec (Memory.wf_disarm hs) 0 3 tier frame low
  rw [ht]
  refine ⟨?_, ?_, hflag, hevent, ?_⟩
  · rw [hregs.armed (by decide), State.armed_disarm hs]
  · have hpwr := ((Keeps.disarm s).append hkeep) .pwr (by decide)
    exact congrArg (·.posts) hpwr
  · rw [hregs _ (by decide), RegsKept.disarm hs _ (by decide)]

/-! ## PERIOD (01 R18) -/

theorem exists_schFrame : ∃ r ix, RwRegister r ix A.SCH_FRAME .s0 0x3FFFF 0x3FFFF 0x3FFFF := exists_rwRegister (by decide)

theorem State.written_period (on : s.isOn .core = true) (h0 : acc.sector = 0) (harmed : s.armed = true) (hroom : s.pwr.posts.length < 8) :
    s.written acc A.SCH_FRAME v = s.disarm.writePeriod acc v := by
  obtain ⟨r, ix, h⟩ := exists_schFrame
  rw [h.written_taken on (decide_eq_true h0) (.inl harmed) (.inr hroom), State.keyBits_all (.inl harmed),
    h.actWrite_slow (by decide) (by decide), if_pos rfl]

theorem State.written_period_guest (on : s.isOn .core = true) (h0 : acc.sector ≠ 0) : s.written acc A.SCH_FRAME v = s.disarm.refused acc := by
  obtain ⟨r, ix, h⟩ := exists_schFrame
  exact h.written_denied on (decide_eq_false h0)

theorem State.written_off (off : s.isOn .core = false) (a : Nat) : s.written acc a v = s := State.writeReg_off off acc _ v

/-- Whether the loaded images fit a period is told by the sectors. -/
theorem State.periodFits_congr {s t : State} (hsecs : t.secs = s.secs)
    (himg : ∀ n : Sector, t.isSet (F.SEC_CTL_IMG n) = s.isSet (F.SEC_CTL_IMG n)) (p : Nat) : t.periodFits p = s.periodFits p := by
  simp only [State.periodFits, hsecs, himg]

theorem State.periodFits_disarm (hs : Memory.wf s = true) (p : Nat) : s.disarm.periodFits p = s.periodFits p := by
  refine State.periodFits_congr (Keeps.disarm s .secs (by decide)) (fun n => (RegsKept.disarm hs).isSet ?_) p
  simp only [F.SEC_CTL_IMG, A.SYS_KEY, List.mem_singleton]
  omega

end

theorem State.pwr_refused_disarm (s : State) (acc : Accessor) : (s.disarm.refused acc).pwr = s.pwr :=
  ((Keeps.disarm s).append (Keeps.refused _ acc)) .pwr (by decide)

section
variable {s : State} {acc : Accessor} {v : Word}

/-- PERIOD with the key and a place in the queue: a value below 8 is ignored, one that an image does not fit rejected, any other posted. -/
theorem State.written_period_spec (hs : Memory.wf s = true) (on : s.isOn .core = true) (h0 : acc.sector = 0) (harmed : s.armed = true)
    (hroom : s.pwr.posts.length < 8) :
    let t := s.written acc A.SCH_FRAME v
    (v.toNat < 8 → t.armed = false ∧ t.pwr = s.pwr ∧ RegsKept [A.SYS_KEY] s t) ∧
      (8 ≤ v.toNat → s.periodFits v.toNat = false → t.armed = false ∧ t.pwr = s.pwr ∧ t.isSet F.SCH_SYNC_PREJ = true ∧
        RegsKept [A.SYS_KEY, A.SCH_SYNC] s t) ∧
      (8 ≤ v.toNat → s.periodFits v.toNat = true → t.armed = false ∧
        t.pwr = { s.pwr with posts := s.pwr.posts ++ [⟨A.SCH_FRAME, 0x3FFFF, v, acc, 0⟩] } ∧ RegsKept [A.SYS_KEY] s t) := by
  have hdis := RegsKept.disarm hs
  have hwf := Memory.wf_disarm hs
  have hpwr : s.disarm.pwr = s.pwr := Keeps.disarm s .pwr (by decide)
  have hoff := State.armed_disarm hs
  rw [State.written_period on h0 harmed hroom, State.writePeriod, State.periodFits_disarm hs]
  refine ⟨fun hlow => ?_, fun hhigh hfit => ?_, fun hhigh hfit => ?_⟩
  · rw [if_pos hlow]
    exact ⟨hoff, hpwr, hdis⟩
  · rw [if_neg (by omega), if_pos (by simp [hfit])]
    have hflag := RegsKept.setFlag hwf F.SCH_SYNC_PREJ
    exact ⟨(hflag.armed (by decide)).trans hoff, (Keeps.setFlag _ F.SCH_SYNC_PREJ .pwr (by decide)).trans hpwr,
      State.isSet_setFlag_self (Memory.wf_regs hwf) _ rfl, hdis.append hflag⟩
  · rw [if_neg (by omega), if_neg (by simp [hfit])]
    have hpost := RegsKept.post s.disarm acc A.SCH_FRAME (BitVec.allOnes 18) v
    exact ⟨(hpost.armed (by simp)).trans hoff, State.pwr_disarm_post s acc .., hdis.append hpost⟩

theorem State.written_period_other (hs : Memory.wf s = true) (h0 : acc.sector ≠ 0) :
    (s.written acc A.SCH_FRAME v).pwr = s.pwr ∧ RegsKept [A.SYS_KEY, A.SEQ_XST acc.sector] s (s.written acc A.SCH_FRAME v) := by
  cases on : s.isOn .core with
  | false =>
    rw [State.written_off on]
    exact ⟨rfl, .refl _ s⟩
  | true =>
    obtain ⟨-, hregs, -⟩ := State.disarm_refused_spec hs acc
    rw [State.written_period_guest on h0]
    exact ⟨State.pwr_refused_disarm s acc, hregs⟩

end

/-- Settles O53: each case of the statement is the case of a register write that the lemmas above describe. -/
theorem registerWrites : Obligations.RegisterWrites := by
  intro s acc v n i hs on write ix logged plain
  have hix : ix = keyIndex acc := by cases acc <;> rfl
  have hprog : ix = 0 → acc.isProg = true := by cases acc <;> simp [ix, Accessor.isProg]
  have hhost : ix = 1 → acc.isProg = false := by cases acc <;> simp [ix, Accessor.isProg]
  have hlog : ∀ code detail t, (s.mem.logq.length < 4 →
      t.mem.logq = s.mem.logq ++ [⟨8, acc.sector.val, keyIndex acc, code, BitVec.ofNat 18 detail, s.tick⟩]) → logged code detail t := by
    intro code detail t h
    simpa only [logged, hix] using h
  refine ⟨?coreOff, ?windowTaken, ?windowRejected, ?keyArms, ?keyRefused, ?keyExpires, ?keyStands, ?keyAddress, ?plainRegisters,
    ?laneGranted, ?laneNotGranted, ?posted, ?period, ?periodGuest⟩
  case coreOff =>
    intro off a
    exact ⟨congrArg Host.Outcome.next (State.writeReg_off off acc a v), congrArg Host.Outcome.next (if_neg (by simp [off]))⟩
  case windowTaken =>
    exact fun h0 harmed hstop hclash hon => completes_registerWrite (State.written_secWin_taken hs hon h0 harmed n hstop hclash)
  case windowRejected =>
    exact fun h0 harmed hrej hon => completes_registerWrite (State.written_secWin_rejected hs hon h0 harmed n hrej)
  case keyArms =>
    rintro hon rfl
    exact completes_sysKeyWrite hon ⟨State.armed_putKey hs 256 1, rfl, RegsKept.putKey hs 256 1, Keeps.putKey s 256 1⟩
  case keyRefused =>
    intro hon hv
    obtain ⟨harmed, hlogq, hrest⟩ := State.keyWrite_other (acc := acc) hs hv
    exact completes_sysKeyWrite hon ⟨harmed, hlog _ _ _ hlogq, hrest⟩
  case keyExpires =>
    intro hzero
    exact ⟨_, congrArg Host.Outcome.next (if_pos hzero), State.armed_disarm hs, RegsKept.disarm hs, Keeps.disarm s⟩
  case keyStands => exact fun hne => congrArg Host.Outcome.next (if_neg hne)
  case keyAddress => exact congrArg Host.Outcome.next (State.written_sysKey s acc v)
  case plainRegisters =>
    intro p hp
    obtain ⟨r, ix, h⟩ := exists_plainKeyed (n := n) hp
    refine ⟨fun h0 harmed hon => completes_registerWrite (h.written_armed hs hon h0 harmed), fun h0 harmed hchange hon => ?_,
      fun h0 harmed hsame hon => ?_, fun h0 hon => ?_⟩
    · obtain ⟨hlogq, hrest⟩ := h.written_locked hs hon h0 harmed hchange
      exact completes_registerWrite ⟨hlog _ _ _ hlogq, hrest⟩
    · exact completes_registerWrite (by rw [h.written_same hon h0 harmed hsame]; exact ⟨.refl _ s, .refl _ s⟩)
    · obtain ⟨harmed, hregs, hkeep, hflag, honly⟩ := State.disarm_refused_spec hs acc
      rw [← h.written_guest hon h0 (v := v)] at harmed hregs hkeep hflag honly
      exact completes_registerWrite ⟨harmed, hregs, hkeep, fun e => hflag (hprog e), fun e => honly (hhost e)⟩
  case laneGranted => exact fun hlane hon => completes_registerWrite (State.written_laneCtl hs hon i hlane)
  case laneNotGranted =>
    intro hlane hon
    obtain ⟨-, hregs, -⟩ := State.disarm_refused_spec hs acc
    exact completes_registerWrite (State.written_laneCtl_other (v := v) hon i hlane ▸ hregs)
  case posted =>
    refine fun h0 => ⟨fun hroom hon => completes_registerWrite (State.written_pwrLret hs hon h0 hroom), fun hfull hone => ?_,
      fun hfull hzero hon => ?_⟩
    · refine congrArg Host.Outcome.next (?_ : s.written acc A.PWR_LRET v = s)
      cases hon : s.isOn .core with
      | false => exact State.written_off hon _
      | true => rw [State.written_pwrLret_full hon h0 hfull, hhost hone]; rfl
    · refine completes_registerWrite ?_
      rw [State.written_pwrLret_full hon h0 hfull, hprog hzero]
      exact State.postBreach_spec hs
  case period =>
    intro hon h0 harmed hroom
    obtain ⟨hlow, hreject, hpost⟩ := State.written_period_spec (v := v) hs hon h0 harmed hroom
    exact ⟨fun hv => completes_periodWrite (hlow hv), fun hv hfit => completes_periodWrite (hreject hv hfit),
      fun hv hfit => completes_periodWrite (hpost hv hfit)⟩
  case periodGuest => exact fun h0 => completes_periodWrite (State.written_period_other hs h0)

end Sys2Proof.Machine
end
